-- ==== Sys2Proof/Word.lean ====
section
/-! DEFINITION. The words of the block and the shapes of its buffers (spec/00_scope.md R6, R8): `u8`, `u32`, `u28`,
`u64`, and the arrays that commands work on. Nothing here computes anything. -/

namespace Sys2Proof

/-- `u8` (R8). -/
abbrev Byte := BitVec 8

/-- `u32` (R8): a register, a schedule word, half a block. -/
abbrev Word := BitVec 32

/-- `u28` (R8): one of the two key registers `C`, `D` of the schedule generator. -/
abbrev U28 := BitVec 28

/-- `u64` (R8): a block or a key seen as one number (R12). -/
abbrev U64 := BitVec 64

/-- A single key: 8 bytes, first byte first (R6). -/
abbrev Key := Vector Byte 8

/-- A block: 8 bytes, first byte first (R6). -/
abbrev Block := Vector Byte 8

/-- The schedule of one pass: 32 words, two a round (R6). -/
abbrev Schedule := Vector Word 32

/-- The contents of the schedule memory: 96 words, three passes (R6). -/
abbrev Cascade := Vector Word 96

/-- The two 32-bit halves a pass works on (spec/43_initial_final_permutation.md R145). -/
structure Halves where
  left  : Word
  right : Word
  deriving DecidableEq, Repr

/-- The two 28-bit key registers (spec/41_key_schedule.md R112). -/
structure KeyRegs where
  c : U28
  d : U28
  deriving DecidableEq, Repr

/-- A round pair: the words `S[2i]` and `S[2i+1]` (spec/10_state.md R24). -/
structure RoundPair where
  even : Word
  odd  : Word
  deriving DecidableEq, Repr

end Sys2Proof
end

