-- ==== Sys2Proof/Syntax.lean ====
section
/-! DEFINITION. The commands: one constructor per row of spec/opcode_table.json (spec/30_encoding.md R77), and how the
spec writes them down (R79). -/

namespace Sys2Proof

/-- The twelve commands. The slot number `s` of the hygiene commands is the only operand (R75, R76). It is kept as the
two bits of the command word; the value 3 is reserved and is what `Instr.wellFormed` refuses. -/
inductive Instr where
  | clr
  | ks1E
  | ks2E
  | ks3E
  | ks1D
  | ks2D
  | ks3D
  | crypt1
  | crypt3
  | parset (s : BitVec 2)
  | parchk (s : BitVec 2)
  | weakchk (s : BitVec 2)
  deriving DecidableEq, Repr

/-- The mnemonic of R77. -/
def Instr.mnemonic : Instr → String
  | .clr => "CLR"
  | .ks1E => "KS1.E"
  | .ks2E => "KS2.E"
  | .ks3E => "KS3.E"
  | .ks1D => "KS1.D"
  | .ks2D => "KS2.D"
  | .ks3D => "KS3.D"
  | .crypt1 => "CRYPT1"
  | .crypt3 => "CRYPT3"
  | .parset _ => "PARSET"
  | .parchk _ => "PARCHK"
  | .weakchk _ => "WEAKCHK"

/-- The operand of a command, where it has one (R76). -/
def Instr.operand : Instr → Option (BitVec 2)
  | .clr => none
  | .ks1E => none
  | .ks2E => none
  | .ks3E => none
  | .ks1D => none
  | .ks2D => none
  | .ks3D => none
  | .crypt1 => none
  | .crypt3 => none
  | .parset s => some s
  | .parchk s => some s
  | .weakchk s => some s

/-- A command as R79 writes it: the mnemonic, with the slot number as a decimal operand where there is one. -/
def Instr.text (i : Instr) : String :=
  match i.operand with
  | none => i.mnemonic
  | some s => i.mnemonic ++ " " ++ toString s.toNat

end Sys2Proof
end

