-- ==== Sys2Proof/WellFormed.lean ====
section
/-! DEFINITION. Which terms of `Instr` are commands: the slot number 3 is reserved (spec/30_encoding.md R75, R78). -/

namespace Sys2Proof

/-- A slot number names one of the three slots (R75). -/
def slotWellFormed (s : BitVec 2) : Bool := s != 3#2

/-- The checks on a command's operand fields; only the hygiene commands have one. -/
def Instr.wellFormed : Instr → Bool
  | .clr => true
  | .ks1E => true
  | .ks2E => true
  | .ks3E => true
  | .ks1D => true
  | .ks2D => true
  | .ks3D => true
  | .crypt1 => true
  | .crypt3 => true
  | .parset s => slotWellFormed s
  | .parchk s => slotWellFormed s
  | .weakchk s => slotWellFormed s

end Sys2Proof
end

