-- ==== Sys2Proof/Decode.lean ====
section
/-! DEFINITION. The decoder (spec/30_encoding.md R81), total on every 32-bit word, and after it the encoder, written from
the format tables R72 to R75. A reserved word (R78) decodes to `none`; what the engine does with it (raise
`IllegalCommand`) is in Machine/Engine.lean. -/

namespace Sys2Proof

/-! ### Fields of the command word (R70 to R75) -/

/-- Bits 31:8, which must be zero (R70). -/
def mustBeZero (w : Word) : BitVec 24 := w.extractLsb' 8 24

/-- The code byte `c = w[7:0]` (R70). -/
def codeByte (w : Word) : Byte := w.extractLsb' 0 8

/-- `grp`, bits 7:4 of the code byte (R71). -/
def grpField (c : Byte) : BitVec 4 := c.extractLsb' 4 4

/-- `op`, bits 3:0 in format C (R72). -/
def opField (c : Byte) : BitVec 4 := c.extractLsb' 0 4

/-- Bit 3 in format K, which must be zero (R73). -/
def kZeroField (c : Byte) : BitVec 1 := c.extractLsb' 3 1

/-- `dir`, bit 2 in format K (R73). -/
def dirField (c : Byte) : BitVec 1 := c.extractLsb' 2 1

/-- `nk`, bits 1:0 in format K (R73). -/
def nkField (c : Byte) : BitVec 2 := c.extractLsb' 0 2

/-- Bits 3:1 in format B, which must be zero (R74). -/
def bZeroField (c : Byte) : BitVec 3 := c.extractLsb' 1 3

/-- `cas`, bit 0 in format B (R74). -/
def casField (c : Byte) : BitVec 1 := c.extractLsb' 0 1

/-- `fn`, bits 3:2 in format H (R75). -/
def fnField (c : Byte) : BitVec 2 := c.extractLsb' 2 2

/-- `s`, bits 1:0 in format H (R75). -/
def slotField (c : Byte) : BitVec 2 := c.extractLsb' 0 2

/-! ### Decoding (R81) -/

/-- Format C (R72): `op = 1` is `CLR`, every other `op` is reserved. -/
def decodeControl (c : Byte) : Option Instr :=
  if opField c = 1#4 then some .clr else none

/-- Format K (R73): `KS(nk, dir)`; bit 3 must be zero and `nk = 3` is reserved. -/
def decodeKeySchedule (c : Byte) : Option Instr :=
  if kZeroField c ≠ 0#1 then none
  else if dirField c = 0#1 then
    (if nkField c = 0#2 then some .ks1E
     else if nkField c = 1#2 then some .ks2E
     else if nkField c = 2#2 then some .ks3E
     else none)
  else
    (if nkField c = 0#2 then some .ks1D
     else if nkField c = 1#2 then some .ks2D
     else if nkField c = 2#2 then some .ks3D
     else none)

/-- Format B (R74): `CRYPT(cas)`; bits 3:1 must be zero. -/
def decodeBlock (c : Byte) : Option Instr :=
  if bZeroField c ≠ 0#3 then none
  else if casField c = 0#1 then some .crypt1
  else some .crypt3

/-- Format H (R75): `HYG(fn, s)`; `fn = 3` and `s = 3` are reserved. -/
def decodeHygiene (c : Byte) : Option Instr :=
  if slotField c = 3#2 then none
  else if fnField c = 0#2 then some (.parset (slotField c))
  else if fnField c = 1#2 then some (.parchk (slotField c))
  else if fnField c = 2#2 then some (.weakchk (slotField c))
  else none

/-- The whole decoder: every word is one command of R77 with its operand, or reserved (`none`). -/
def decode (w : Word) : Option Instr :=
  let c := codeByte w
  if mustBeZero w ≠ 0#24 then none
  else if grpField c = 0#4 then decodeControl c
  else if grpField c = 1#4 then decodeKeySchedule c
  else if grpField c = 2#4 then decodeBlock c
  else if grpField c = 3#4 then decodeHygiene c
  else none

/-- The host's view of the decoder: the command read from an instruction whose bits are `w`, numbered as
spec/opcode_table.json numbers them. A command is one 32-bit value written whole, so no byte order enters (R53, R61);
log 10. -/
def decodeTableWord (nbits w : Nat) : Option Instr :=
  decode (BitVec.ofNat 32 (w % 2 ^ nbits))

/-! ### Encoding (R72 to R75) -/

/-- A code byte zero-extended to the command word (R77). -/
def commandWord (c : Byte) : Word := 0#24 ++ c

/-- The code byte of format C (R72). -/
def formatC (op : BitVec 4) : Byte := 0b0000#4 ++ op

/-- The code byte of format K (R73). -/
def formatK (dir : BitVec 1) (nk : BitVec 2) : Byte := 0b0001#4 ++ 0#1 ++ dir ++ nk

/-- The code byte of format B (R74). -/
def formatB (cas : BitVec 1) : Byte := 0b0010#4 ++ 0#3 ++ cas

/-- The code byte of format H (R75). -/
def formatH (fn s : BitVec 2) : Byte := 0b0011#4 ++ fn ++ s

/-- The command word of a command. -/
def encode : Instr → Word
  | .clr => commandWord (formatC 1#4)
  | .ks1E => commandWord (formatK 0#1 0#2)
  | .ks2E => commandWord (formatK 0#1 1#2)
  | .ks3E => commandWord (formatK 0#1 2#2)
  | .ks1D => commandWord (formatK 1#1 0#2)
  | .ks2D => commandWord (formatK 1#1 1#2)
  | .ks3D => commandWord (formatK 1#1 2#2)
  | .crypt1 => commandWord (formatB 0#1)
  | .crypt3 => commandWord (formatB 1#1)
  | .parset s => commandWord (formatH 0#2 s)
  | .parchk s => commandWord (formatH 1#2 s)
  | .weakchk s => commandWord (formatH 2#2 s)

end Sys2Proof
end

