-- ==== Sys2Proof/Machine/State.lean ====
section
/-! DEFINITION. The state of the block (spec/10_state.md R23 to R32), the host's accesses that drive it (spec/20_memory.md
R52, spec/70_reset_and_hazards.md R221), and the reasons a step can stop. The block has no memory of its own (R50), so
State holds no list of memory cells: its buffers are vectors of the sizes the spec gives. -/

namespace Sys2Proof.Machine

/-- Why the machine stops with a fault: never. Both command errors are state of the block (`ERR`, R200, R205) and the
machine goes on after them, so there is no constructor (log 17). Safe: nothing is proved from a fault that cannot
happen. -/
inductive Fault where
  deriving DecidableEq, Repr

/-- Why a step is refused. -/
inductive Refusal where
  /-- Raised by an arm of `exec` that has no meaning yet; no arm does. Safe: nothing is proved of such a command. -/
  | notModelled (mnemonic : String)
  /-- Raised by `step` on a host access that is not an aligned 32-bit access inside the window: "this spec gives them no
  meaning and a model must refuse them (no step)" (R54). Safe, log 5. -/
  | undefinedAccess
  deriving DecidableEq, Repr

/-- `SKLEN` (R26): the length of the schedule held. The code 3 never occurs, and no value of this type has it (log 8). -/
inductive SchedLen where
  /-- 0: no schedule. -/
  | empty
  /-- 1: 32 words, one pass. -/
  | single
  /-- 2: 96 words, three passes. -/
  | cascade
  deriving DecidableEq, Repr

/-- `DIR` (R27): the direction for which the held schedule was generated. -/
inductive Dir where
  /-- 0: generated by an `.E` command. -/
  | enc
  /-- 1: generated by a `.D` command. -/
  | dec
  deriving DecidableEq, Repr

/-- The two command errors (R200). `ERR` is `Option CmdError`: `none` is code 0; the codes 3 to 15 never occur (log 8). -/
inductive CmdError where
  /-- Code 1: the command word is reserved (R201). -/
  | illegalCommand
  /-- Code 2: the schedule held is not of the length the command consumes (R202). -/
  | invalidLength
  deriving DecidableEq, Repr

/-- The width of a read on the host's bus (R54): only `w32` is defined. -/
inductive Width where
  | w8
  | w16
  | w32
  | w64
  deriving DecidableEq, Repr

/-- What a write on the host's bus carries, with its width (R54): only `u32` is defined. -/
inductive BusData where
  | u8 (v : BitVec 8)
  | u16 (v : BitVec 16)
  | u32 (v : Word)
  | u64 (v : U64)
  deriving DecidableEq, Repr

/-- One thing the outside does to the block: a register read, a register write, or a reset, each complete before the
next (R58, R221). `off` is the bus address less `BASE`, so it may lie outside the window (log 6). -/
inductive HostEvent where
  /-- `RD off` (spec/30_encoding.md R79). -/
  | read (off : Int) (width : Width)
  /-- `WR off, value` (R79); at offset 0 it hands the engine a command word. -/
  | write (off : Int) (data : BusData)
  /-- Power-on or the platform's reset input (R220). -/
  | reset
  deriving DecidableEq, Repr

/-- The state: the nine elements of spec/10_state.md, and two lists of the model's own that stand for the host. -/
structure State where
  /-- `KEY[0..23]` (R23): the key buffer; slot `s` is bytes `8s` to `8s+7`. -/
  key : Vector Byte 24
  /-- `SK[0..95]` (R24): the schedule memory. -/
  sk : Cascade
  /-- `SKLEN` (R26). -/
  sklen : SchedLen
  /-- `DIR` (R27). -/
  dir : Dir
  /-- `SCR[0..95]` (R28): the scratch schedule, zero at every command boundary (log 14). -/
  scr : Cascade
  /-- `DIN[0..7]` (R29). -/
  din : Block
  /-- `DOUT[0..7]` (R30). -/
  dout : Block
  /-- `FLAG` (R31): the result of the last predicate command. -/
  flag : Bool
  /-- `ERR` (R32): the error cause; error mode is `err ≠ none`. -/
  err : Option CmdError
  /-- The MODEL's own: what the host will do next, oldest first (R20, R58; log 1). -/
  pending : List HostEvent
  /-- The MODEL's own: the values reads have returned to the host, oldest first (log 2). -/
  reads : List Word
  deriving DecidableEq, Repr

/-- `zeros(n)` (spec/00_scope.md R13). -/
def zeros {w : Nat} (n : Nat) : Vector (BitVec w) n := Vector.replicate n 0#w

/-- The state right after reset (R38, R220): every element of the block is zero; the host has nothing pending and has
read nothing (log 9). -/
def State.reset : State where
  key := zeros 24
  sk := zeros 96
  sklen := .empty
  dir := .enc
  scr := zeros 96
  din := zeros 8
  dout := zeros 8
  flag := false
  err := none
  pending := []
  reads := []

end Sys2Proof.Machine
end

