-- ==== Sys2Proof/Machine/Words.lean ====
section
/-! DEFINITION. The operations on words, bytes and bits (spec/00_scope.md R9 to R13): rotations, the big-endian packing,
FIPS bit numbering and `perm`, and the masked swap that the word forms of IP, FP and PC1 are made of. -/

namespace Sys2Proof.Machine

/-- `ROL32(a, n)` (R11). -/
def rol32 (a : Word) (n : Nat) : Word := a.rotateLeft n

/-- `ROR32(a, n)` (R11). -/
def ror32 (a : Word) (n : Nat) : Word := a.rotateRight n

/-- `ROL28(a, n)` (R11), on a value that is 28 bits wide by type. -/
def rol28 (a : U28) (n : Nat) : U28 := a.rotateLeft n

/-- `be32(b0, b1, b2, b3)` (R12): most significant byte first. -/
def be32 (b0 b1 b2 b3 : Byte) : Word := b0 ++ b1 ++ b2 ++ b3

/-- `unbe32(w)` (R12). -/
def unbe32 (w : Word) : Vector Byte 4 :=
  #v[w.extractLsb' 24 8, w.extractLsb' 16 8, w.extractLsb' 8 8, w.extractLsb' 0 8]

/-- The high word of an 8-byte sequence, `be32(B[0..3])` (R12, R80). -/
def hiWord (b : Vector Byte 8) : Word := be32 b[0] b[1] b[2] b[3]

/-- The low word of an 8-byte sequence, `be32(B[4..7])` (R12, R80). -/
def loWord (b : Vector Byte 8) : Word := be32 b[4] b[5] b[6] b[7]

/-- An 8-byte sequence as a 64-bit value (R12). -/
def toU64 (b : Vector Byte 8) : U64 := hiWord b ++ loWord b

/-- Two words as 8 bytes, most significant first: `unbe32(hi) ++ unbe32(lo)` (R13). -/
def bytesOf (hi lo : Word) : Vector Byte 8 := unbe32 hi ++ unbe32 lo

/-- `fbit(v, n, i)` (R10): FIPS bit `i`, bit 1 the most significant. -/
def fbit {n : Nat} (v : BitVec n) (i : Nat) : Bool := v.getLsbD (n - i)

/-- `perm(v, n, T)` (R10): FIPS bit `j` of the result is FIPS bit `T[j]` of `v`. Bit `b` of an `m`-bit value is FIPS bit
`m - b`, and `T[1]` is the first entry of the table. -/
def perm {n m : Nat} (v : BitVec n) (t : Vector Nat m) : BitVec m :=
  BitVec.ofFnLE fun b : Fin m => fbit v (t[m - 1 - b.val]'(by have := b.isLt; omega))

/-- One swap line of the word forms (R112, R146, R148): `T = ((a >> n) ^ b) & mask; b = b ^ T; a = a ^ (T << n)`. The
result is `(a, b)`. -/
def deltaSwap (n : Nat) (mask a b : Word) : Word × Word :=
  let t := ((a >>> n) ^^^ b) &&& mask
  (a ^^^ (t <<< n), b ^^^ t)

/-- A 64-entry table read at a 6-bit index. -/
def lookup6 (t : Vector Word 64) (i : BitVec 6) : Word := t[i.toNat]'i.isLt

/-- A 16-entry table read at a 4-bit index. -/
def lookup4 (t : Vector Word 16) (i : BitVec 4) : Word := t[i.toNat]'i.isLt

/-- Word `j` of a byte buffer, `be32(A[4j], A[4j+1], A[4j+2], A[4j+3])` (spec/20_memory.md R51). -/
def wordAt {n : Nat} (a : Vector Byte n) (j : Nat) (h : 4 * j + 3 < n) : Word :=
  be32 a[4 * j] a[4 * j + 1] a[4 * j + 2] a[4 * j + 3]

/-- `(A[4j], A[4j+1], A[4j+2], A[4j+3]) <- unbe32(v)` (R52). -/
def setWordAt {n : Nat} (a : Vector Byte n) (j : Nat) (v : Word) : Vector Byte n :=
  Vector.ofFn fun i : Fin n =>
    if i.val / 4 = j then (unbe32 v)[i.val % 4]'(by omega) else a[i.val]

/-- Words `32p` to `32p+31` of the schedule memory: the segment of pass `p` (spec/10_state.md R24). -/
def segment (s : Cascade) (p : Fin 3) : Schedule :=
  Vector.ofFn fun i : Fin 32 => s[32 * p.val + i.val]'(by have := p.isLt; have := i.isLt; omega)

end Sys2Proof.Machine
end

