-- ==== Sys2Proof/Machine/Ops.lean ====
section
/-! DEFINITION. The named operations every command is made of: the writes of state elements, the error entry and the
return from it (spec/60_exceptions.md R205, R208), and the error-mode test (R207) that comes before everything else
(spec/30_encoding.md R82). -/

namespace Sys2Proof.Machine

/-- Error entry, `raise E(info)` (R205): the cause is latched, "no other state changes". -/
def State.raise (e : CmdError) (s : State) : State := { s with err := some e }

/-- The return from error mode and the effect of a reset (R208, R220; spec/46_context_control.md R190): every element of
the block gets its reset value. What the host has pending and has read is the host's and stays. -/
def State.clear (s : State) : State :=
  { State.reset with pending := s.pending, reads := s.reads }

/-- What a key-schedule command writes (spec/41_key_schedule.md R122, spec/42_cascade_key_composer.md R132, R135): the
whole context (spec/10_state.md R25), and zeros in the scratch. -/
def State.setContext (sk : Cascade) (len : SchedLen) (dir : Dir) (s : State) : State :=
  { s with sk := sk, scr := zeros 96, sklen := len, dir := dir }

/-- A write of the key buffer. -/
def State.setKey (k : Vector Byte 24) (s : State) : State := { s with key := k }

/-- A write of the input block. -/
def State.setDin (b : Block) (s : State) : State := { s with din := b }

/-- A write of the output block. -/
def State.setDout (b : Block) (s : State) : State := { s with dout := b }

/-- The block is in error mode exactly when `ERR != 0` (R207). -/
def State.errorMode (s : State) : Bool := s.err.isSome

/-- The command's first test (R82): in error mode it is ignored, otherwise it does `op`. "An operation that starts always
completes" (R82). -/
def inNormalMode (s : State) (op : State → State) : Host.Outcome State Fault Refusal :=
  if s.errorMode then .next s else .next (op s)

end Sys2Proof.Machine
end

