-- ==== Sys2Proof/Machine/Control.lean ====
section
/-! DEFINITION. Context control (spec/46_context_control.md): `CLR`, the one command that acts in error mode too. -/

namespace Sys2Proof.Machine

/-- `CLR` (R190): every element of the block to its reset value, in either mode. -/
def execClr (s : State) : Host.Outcome State Fault Refusal := .next s.clear

end Sys2Proof.Machine
end

