-- ==== Sys2Proof/Machine/Permutation.lean ====
section
/-! DEFINITION. des_initial_final_permutation (spec/43_initial_final_permutation.md): `ip` and `fp` in word form, the
form the engine runs. Their FIPS forms are in Machine/Fips.lean (log 11). -/

namespace Sys2Proof.Machine

/-- `ip(X, Y)` (R146), line by line. A line whose `T` takes `X` shifted changes `(X, Y)`, one that takes `Y` shifted
changes `(Y, X)`. -/
def ip (h : Halves) : Halves :=
  let (x, y) := deltaSwap 4 0x0F0F0F0F#32 h.left h.right
  let (x, y) := deltaSwap 16 0x0000FFFF#32 x y
  let (y, x) := deltaSwap 2 0x33333333#32 y x
  let (y, x) := deltaSwap 8 0x00FF00FF#32 y x
  let y := rol32 y 1
  let (x, y) := deltaSwap 0 0xAAAAAAAA#32 x y
  let x := rol32 x 1
  ⟨x, y⟩

/-- `fp(X, Y)` (R148): the lines of `ip` undone in reverse order. -/
def fp (h : Halves) : Halves :=
  let x := ror32 h.left 1
  let (x, y) := deltaSwap 0 0xAAAAAAAA#32 x h.right
  let y := ror32 y 1
  let (y, x) := deltaSwap 8 0x00FF00FF#32 y x
  let (y, x) := deltaSwap 2 0x33333333#32 y x
  let (x, y) := deltaSwap 16 0x0000FFFF#32 x y
  let (x, y) := deltaSwap 4 0x0F0F0F0F#32 x y
  ⟨x, y⟩

end Sys2Proof.Machine
end

