-- ==== Sys2Proof/Machine/Feistel.lean ====
section
/-! DEFINITION. feistel_engine and the single-block codec (spec/44_feistel_engine.md): the round function, one pass, three
passes, and the commands `CRYPT1` and `CRYPT3`. Word forms; the FIPS forms are in Machine/Fips.lean (log 11). -/

namespace Sys2Proof.Machine

/-- The round function `F(h, k0, k1)`, word form (R157): the first word of the pair serves the even tables, the second the
odd ones. -/
def roundF (h k0 k1 : Word) : Word :=
  let t0 := k0 ^^^ h
  let t1 := k1 ^^^ ror32 h 4
  lookup6 sb8 (t0.extractLsb' 0 6) ^^^ lookup6 sb6 (t0.extractLsb' 8 6) ^^^
    lookup6 sb4 (t0.extractLsb' 16 6) ^^^ lookup6 sb2 (t0.extractLsb' 24 6) ^^^
    lookup6 sb7 (t1.extractLsb' 0 6) ^^^ lookup6 sb5 (t1.extractLsb' 8 6) ^^^
    lookup6 sb3 (t1.extractLsb' 16 6) ^^^ lookup6 sb1 (t1.extractLsb' 24 6)

/-- One iteration of the loop of R159, rounds `2i` and `2i+1`: the even round changes `X`, the odd one `Y`, "uses the X
just computed". -/
def doubleRound (s : Schedule) (i : Fin 8) (h : Halves) : Halves :=
  let x := h.left ^^^ roundF h.right (s[4 * i.val]'(by omega)) (s[4 * i.val + 1]'(by omega))
  let y := h.right ^^^ roundF x (s[4 * i.val + 2]'(by omega)) (s[4 * i.val + 3]'(by omega))
  ⟨x, y⟩

/-- The 16 rounds (R159): 8 double rounds, `i` from 0 to 7. -/
def rounds (s : Schedule) (h : Halves) : Halves :=
  (List.finRange 8).foldl (fun h i => doubleRound s i h) h

/-- The two halves exchanged: the final permutation is applied to `(Y, X)` (R161). -/
def exchange (h : Halves) : Halves := ⟨h.right, h.left⟩

/-- A block as its two halves, big-endian (R156). -/
def loadHalves (b : Block) : Halves := ⟨hiWord b, loWord b⟩

/-- Two halves as a block, left half first (R161). -/
def storeHalves (h : Halves) : Block := bytesOf h.left h.right

/-- `process_block(S, block)` (R162): one pass. -/
def processBlock (s : Schedule) (b : Block) : Block :=
  storeHalves (fp (exchange (rounds s (ip (loadHalves b)))))

/-- `process_block3(S, block)` (R164): three passes, each on the next 32 words. -/
def processBlock3 (s : Cascade) (b : Block) : Block :=
  processBlock (segment s 2) (processBlock (segment s 1) (processBlock (segment s 0) b))

/-- The fused form that R164 permits: one `ip`, 24 double rounds with the halves exchanged for the middle pass, one `fp`.
No command runs it; it is here to be compared with `processBlock3` (spec/90_conflicts.md C2). -/
def processBlock3Fused (s : Cascade) (b : Block) : Block :=
  let h := rounds (segment s 0) (ip (loadHalves b))
  let h := rounds (segment s 1) (exchange h)
  let h := rounds (segment s 2) (exchange h)
  storeHalves (fp (exchange h))

/-- The precondition of a block command (R165, R166, R202), tested before the operation: with a schedule of another length
the command raises `InvalidLength`, otherwise `DOUT` is written as a whole. -/
def cryptWith (len : SchedLen) (f : State → Block) (s : State) : State :=
  if s.sklen = len then s.setDout (f s) else s.raise .invalidLength

/-- `CRYPT1` (R165). -/
def execCrypt1 (s : State) : Host.Outcome State Fault Refusal :=
  inNormalMode s (cryptWith .single fun s => processBlock (segment s.sk 0) s.din)

/-- `CRYPT3` (R166). -/
def execCrypt3 (s : State) : Host.Outcome State Fault Refusal :=
  inNormalMode s (cryptWith .cascade fun s => processBlock3 s.sk s.din)

end Sys2Proof.Machine
end

