-- ==== Sys2Proof/Machine/Flags.lean ====
section
/-! DEFINITION. The one flag, `FLAG` (spec/10_state.md R31), and the view `STATUS` with the codes of the fields it shows
(R26, R27, R32, R33). -/

namespace Sys2Proof.Machine

/-- `FLAG <- b`. -/
def State.setFlag (b : Bool) (s : State) : State := { s with flag := b }

/-- The code of `SKLEN` (R26). -/
def SchedLen.code : SchedLen → BitVec 2
  | .empty => 0
  | .single => 1
  | .cascade => 2

/-- The code of `DIR` (R27). -/
def Dir.code : Dir → BitVec 1
  | .enc => 0
  | .dec => 1

/-- The code of an error (R200). -/
def CmdError.code : CmdError → BitVec 4
  | .illegalCommand => 1
  | .invalidLength => 2

/-- The code in `ERR` (R200): 0 where no error is latched. -/
def errCode : Option CmdError → BitVec 4
  | none => 0
  | some e => e.code

/-- `STATUS` (R33): `FLAG` in bit 0, `SKLEN` in 2:1, `DIR` in 3, `ERR` in 7:4, zero above. -/
def State.status (s : State) : Word :=
  (BitVec.ofBool s.flag).setWidth 32 ||| (s.sklen.code.setWidth 32 <<< 1) |||
    (s.dir.code.setWidth 32 <<< 3) ||| ((errCode s.err).setWidth 32 <<< 4)

end Sys2Proof.Machine
end

