-- ==== Sys2Proof/Machine/Operands.lean ====
section
/-! DEFINITION. The one operand form of the command set: a slot of the key buffer (spec/30_encoding.md R75, R76;
spec/10_state.md R23). -/

namespace Sys2Proof.Machine

/-- The slot a two-bit slot number names; 3 names none (R75). -/
def slotOf (s : BitVec 2) : Option (Fin 3) :=
  if s = 0#2 then some 0 else if s = 1#2 then some 1 else if s = 2#2 then some 2 else none

/-- Slot `k`: the 8 bytes `KEY[8k..8k+7]` (R23). -/
def State.slot (s : State) (k : Fin 3) : Key :=
  Vector.ofFn fun i : Fin 8 => s.key[8 * k.val + i.val]'(by have := k.isLt; have := i.isLt; omega)

/-- `KEY[8k..8k+7] <- v`. -/
def State.setSlot (k : Fin 3) (v : Key) (s : State) : State :=
  s.setKey (Vector.ofFn fun i : Fin 24 =>
    if i.val / 8 = k.val then v[i.val % 8]'(by omega) else s.key[i.val])

/-- A hygiene command's operand (R183 to R185): the operation on slot `s` for `s` in 0..2, and `IllegalCommand` for the
reserved `s = 3`, which no decoded command has (R78; log 13). -/
def onSlot (n : BitVec 2) (op : Fin 3 → State → State) (s : State) : State :=
  match slotOf n with
  | some k => op k s
  | none => s.raise .illegalCommand

end Sys2Proof.Machine
end

