-- ==== Sys2Proof/Machine/Hygiene.lean ====
section
/-! DEFINITION. des_key_hygiene_checker (spec/45_key_hygiene.md): the three functions on a key and the commands `PARSET`,
`PARCHK`, `WEAKCHK`. -/

namespace Sys2Proof.Machine

/-- A key byte's entry of the parity table, `PAR[b >> 1]` (R175). -/
def forceParity (b : Byte) : Byte := par (b.extractLsb' 1 7)

/-- `set_odd_parity` (R177). -/
def setOddParity (key : Key) : Key := Vector.ofFn fun i : Fin 8 => forceParity key[i]

/-- `check_odd_parity` (R180): every byte already equals its table entry. -/
def checkOddParity (key : Key) : Bool := key.toList.all fun b => b == forceParity b

/-- `check_weak` (R181): the key equals one of the 16 patterns, all 8 bits of all 8 bytes compared. -/
def checkWeak (key : Key) : Bool := weakKeys.any fun w => decide (key = w)

/-- `PARSET s` (R183). -/
def execParset (n : BitVec 2) (s : State) : Host.Outcome State Fault Refusal :=
  inNormalMode s (onSlot n fun k s => s.setSlot k (setOddParity (s.slot k)))

/-- `PARCHK s` (R184). -/
def execParchk (n : BitVec 2) (s : State) : Host.Outcome State Fault Refusal :=
  inNormalMode s (onSlot n fun k s => s.setFlag (checkOddParity (s.slot k)))

/-- `WEAKCHK s` (R185). -/
def execWeakchk (n : BitVec 2) (s : State) : Host.Outcome State Fault Refusal :=
  inNormalMode s (onSlot n fun k s => s.setFlag (checkWeak (s.slot k)))

end Sys2Proof.Machine
end

