-- ==== Sys2Proof/Machine/KeySchedule.lean ====
section
/-! DEFINITION. triple_des_key_schedule_generator: one key (spec/41_key_schedule.md), the cascade composer
(spec/42_cascade_key_composer.md), and the six key-schedule commands. The word forms are what the engine runs; the FIPS
forms are in Machine/Fips.lean (log 11). -/

namespace Sys2Proof.Machine

/-! ### One key -/

/-- Permuted Choice 1, word form (R112). `(x >> n) & 0xF` is the 4-bit field of `x` at bit `n`; the masks `0x0FFFFFFF` are
the 28-bit width of the registers. -/
def pc1 (h : Halves) : KeyRegs :=
  let (y, x) := deltaSwap 4 0x0F0F0F0F#32 h.right h.left
  let (y, x) := deltaSwap 0 0x10101010#32 y x
  let c :=
    (lookup4 lhs (x.extractLsb' 0 4) <<< 3) ||| (lookup4 lhs (x.extractLsb' 8 4) <<< 2) |||
    (lookup4 lhs (x.extractLsb' 16 4) <<< 1) ||| lookup4 lhs (x.extractLsb' 24 4) |||
    (lookup4 lhs (x.extractLsb' 5 4) <<< 7) ||| (lookup4 lhs (x.extractLsb' 13 4) <<< 6) |||
    (lookup4 lhs (x.extractLsb' 21 4) <<< 5) ||| (lookup4 lhs (x.extractLsb' 29 4) <<< 4)
  let d :=
    (lookup4 rhs (y.extractLsb' 1 4) <<< 3) ||| (lookup4 rhs (y.extractLsb' 9 4) <<< 2) |||
    (lookup4 rhs (y.extractLsb' 17 4) <<< 1) ||| lookup4 rhs (y.extractLsb' 25 4) |||
    (lookup4 rhs (y.extractLsb' 4 4) <<< 7) ||| (lookup4 rhs (y.extractLsb' 12 4) <<< 6) |||
    (lookup4 rhs (y.extractLsb' 20 4) <<< 5) ||| (lookup4 rhs (y.extractLsb' 28 4) <<< 4)
  ⟨c.setWidth 28, d.setWidth 28⟩

/-- Both registers rotated left (R115). -/
def rotateRegs (r : KeyRegs) (n : Nat) : KeyRegs := ⟨rol28 r.c n, rol28 r.d n⟩

/-- The registers after `n` rotations (R115): "the registers are not reloaded between rounds". Round `i` uses
`regsAfter r (i + 1)`. -/
def regsAfter (r : KeyRegs) : Nat → KeyRegs
  | 0 => r
  | n + 1 => rotateRegs (regsAfter r n) (shiftCount n)

/-- Permuted Choice 2, word form, the first word of a round (R116); `c` and `d` are the registers as `u32`. -/
def pc2Even (r : KeyRegs) : Word :=
  let c := r.c.setWidth 32
  let d := r.d.setWidth 32
  ((c <<< 4) &&& 0x24000000#32) ||| ((c <<< 28) &&& 0x10000000#32) |||
  ((c <<< 14) &&& 0x08000000#32) ||| ((c <<< 18) &&& 0x02080000#32) |||
  ((c <<< 6) &&& 0x01000000#32) ||| ((c <<< 9) &&& 0x00200000#32) |||
  ((c >>> 1) &&& 0x00100000#32) ||| ((c <<< 10) &&& 0x00040000#32) |||
  ((c <<< 2) &&& 0x00020000#32) ||| ((c >>> 10) &&& 0x00010000#32) |||
  ((d >>> 13) &&& 0x00002000#32) ||| ((d >>> 4) &&& 0x00001000#32) |||
  ((d <<< 6) &&& 0x00000800#32) ||| ((d >>> 1) &&& 0x00000400#32) |||
  ((d >>> 14) &&& 0x00000200#32) ||| (d &&& 0x00000100#32) |||
  ((d >>> 5) &&& 0x00000020#32) ||| ((d >>> 10) &&& 0x00000010#32) |||
  ((d >>> 3) &&& 0x00000008#32) ||| ((d >>> 18) &&& 0x00000004#32) |||
  ((d >>> 26) &&& 0x00000002#32) ||| ((d >>> 24) &&& 0x00000001#32)

/-- Permuted Choice 2, word form, the second word of a round (R116). -/
def pc2Odd (r : KeyRegs) : Word :=
  let c := r.c.setWidth 32
  let d := r.d.setWidth 32
  ((c <<< 15) &&& 0x20000000#32) ||| ((c <<< 17) &&& 0x10000000#32) |||
  ((c <<< 10) &&& 0x08000000#32) ||| ((c <<< 22) &&& 0x04000000#32) |||
  ((c >>> 2) &&& 0x02000000#32) ||| ((c <<< 1) &&& 0x01000000#32) |||
  ((c <<< 16) &&& 0x00200000#32) ||| ((c <<< 11) &&& 0x00100000#32) |||
  ((c <<< 3) &&& 0x00080000#32) ||| ((c >>> 6) &&& 0x00040000#32) |||
  ((c <<< 15) &&& 0x00020000#32) ||| ((c >>> 4) &&& 0x00010000#32) |||
  ((d >>> 2) &&& 0x00002000#32) ||| ((d <<< 8) &&& 0x00001000#32) |||
  ((d >>> 14) &&& 0x00000808#32) ||| ((d >>> 9) &&& 0x00000400#32) |||
  (d &&& 0x00000200#32) ||| ((d <<< 7) &&& 0x00000100#32) |||
  ((d >>> 7) &&& 0x00000020#32) ||| ((d >>> 3) &&& 0x00000011#32) |||
  ((d <<< 2) &&& 0x00000004#32) ||| ((d >>> 21) &&& 0x00000002#32)

/-- Permuted Choice 2, both words (R116). -/
def pc2 (r : KeyRegs) : RoundPair := ⟨pc2Even r, pc2Odd r⟩

/-- The two key registers that a key loads (R111, R112). -/
def loadKeyRegs (key : Key) : KeyRegs := pc1 ⟨hiWord key, loWord key⟩

/-- `generate_schedule` (R110, R118): words `2i` and `2i+1` are the round pair of round `i`. -/
def generateSchedule (key : Key) : Schedule :=
  Vector.ofFn fun j : Fin 32 =>
    let r := regsAfter (loadKeyRegs key) (j.val / 2 + 1)
    if j.val % 2 = 0 then pc2Even r else pc2Odd r

/-- `reverse_pairs` (R119): pair `i` and `15-i` swapped, the order inside a pair kept. -/
def reversePairs (s : Schedule) : Schedule :=
  Vector.ofFn fun j : Fin 32 => s[30 - 2 * (j.val / 2) + j.val % 2]'(by have := j.isLt; omega)

/-! ### Cascades (R131) -/

/-- `compose2_enc(K1, K2)` (R131). -/
def compose2Enc (k1 k2 : Key) : Cascade :=
  generateSchedule k1 ++ reversePairs (generateSchedule k2) ++ generateSchedule k1

/-- `compose2_dec(K1, K2)` (R131). -/
def compose2Dec (k1 k2 : Key) : Cascade :=
  reversePairs (generateSchedule k1) ++ generateSchedule k2 ++ reversePairs (generateSchedule k1)

/-- `compose3_enc(K1, K2, K3)` (R131). -/
def compose3Enc (k1 k2 k3 : Key) : Cascade :=
  generateSchedule k1 ++ reversePairs (generateSchedule k2) ++ generateSchedule k3

/-- `compose3_dec(K1, K2, K3)` (R131). -/
def compose3Dec (k1 k2 k3 : Key) : Cascade :=
  reversePairs (generateSchedule k3) ++ generateSchedule k2 ++ reversePairs (generateSchedule k1)

/-- What a single-key command puts in the schedule memory (R122): the 32 words, and zeros in words 32 to 95. -/
def singleContext (s : Schedule) : Cascade := s ++ (zeros 64 : Vector Word 64)

/-! ### The commands -/

/-- `KS1.E` (R122). -/
def execKs1E (s : State) : Host.Outcome State Fault Refusal :=
  inNormalMode s fun s => s.setContext (singleContext (generateSchedule (s.slot 0))) .single .enc

/-- `KS1.D` (R123). -/
def execKs1D (s : State) : Host.Outcome State Fault Refusal :=
  inNormalMode s fun s => s.setContext (singleContext (reversePairs (generateSchedule (s.slot 0)))) .single .dec

/-- `KS2.E` (R135). -/
def execKs2E (s : State) : Host.Outcome State Fault Refusal :=
  inNormalMode s fun s => s.setContext (compose2Enc (s.slot 0) (s.slot 1)) .cascade .enc

/-- `KS2.D` (R136). -/
def execKs2D (s : State) : Host.Outcome State Fault Refusal :=
  inNormalMode s fun s => s.setContext (compose2Dec (s.slot 0) (s.slot 1)) .cascade .dec

/-- `KS3.E` (R137). -/
def execKs3E (s : State) : Host.Outcome State Fault Refusal :=
  inNormalMode s fun s => s.setContext (compose3Enc (s.slot 0) (s.slot 1) (s.slot 2)) .cascade .enc

/-- `KS3.D` (R138). -/
def execKs3D (s : State) : Host.Outcome State Fault Refusal :=
  inNormalMode s fun s => s.setContext (compose3Dec (s.slot 0) (s.slot 1) (s.slot 2)) .cascade .dec

end Sys2Proof.Machine
end

