-- ==== Sys2Proof/Machine/Dispatch.lean ====
section
/-! DEFINITION. The meaning of every command: one arm per constructor of Instr. -/

namespace Sys2Proof.Machine

def exec (i : Instr) (s : State) : Host.Outcome State Fault Refusal :=
  match i with
  | .clr => Sys2Proof.Machine.execClr s
  | .ks1E => Sys2Proof.Machine.execKs1E s
  | .ks2E => Sys2Proof.Machine.execKs2E s
  | .ks3E => Sys2Proof.Machine.execKs3E s
  | .ks1D => Sys2Proof.Machine.execKs1D s
  | .ks2D => Sys2Proof.Machine.execKs2D s
  | .ks3D => Sys2Proof.Machine.execKs3D s
  | .crypt1 => Sys2Proof.Machine.execCrypt1 s
  | .crypt3 => Sys2Proof.Machine.execCrypt3 s
  | .parset n => Sys2Proof.Machine.execParset n s
  | .parchk n => Sys2Proof.Machine.execParchk n s
  | .weakchk n => Sys2Proof.Machine.execWeakchk n s

end Sys2Proof.Machine
end

