-- ==== Sys2Proof/Machine/Engine.lean ====
section
/-! DEFINITION. The engine's only entry (spec/30_encoding.md R82): what a command word written to `CMD` does. -/

namespace Sys2Proof.Machine

/-- What a reserved command word does (R78, R201): it raises `IllegalCommand`, and in error mode it is ignored (R207). -/
def execReserved (s : State) : Host.Outcome State Fault Refusal :=
  inNormalMode s (State.raise .illegalCommand)

/-- `Execute(w)` (R82). Every command's meaning makes the error-mode test itself, so decoding first changes nothing: in
error mode `CLR` acts and every other word, reserved ones included, has no effect. -/
def execute (w : Word) (s : State) : Host.Outcome State Fault Refusal :=
  match decode w with
  | some i => exec i s
  | none => execReserved s

end Sys2Proof.Machine
end

