-- ==== Sys2Proof/Machine/Window.lean ====
section
/-! DEFINITION. The register window (spec/20_memory.md R50 to R57): the register map, the two host primitives, and which
accesses are defined. -/

namespace Sys2Proof.Machine

/-- The registers of the window (R51), by name and number. -/
inductive Reg where
  | cmd
  | status
  | keyw (j : Fin 6)
  | dinw (j : Fin 2)
  | doutw (j : Fin 2)
  | skw (i : Fin 96)
  | scrw (i : Fin 96)
  | reserved
  deriving DecidableEq, Repr

/-- The register map (R51): the register at an offset of the window. -/
def regAt (off : Nat) : Reg :=
  if off = 0x000 then .cmd
  else if off = 0x004 then .status
  else if h : 0x010 ≤ off ∧ off ≤ 0x024 then .keyw ⟨(off - 0x010) / 4, by omega⟩
  else if h : 0x030 ≤ off ∧ off ≤ 0x034 then .dinw ⟨(off - 0x030) / 4, by omega⟩
  else if h : 0x038 ≤ off ∧ off ≤ 0x03C then .doutw ⟨(off - 0x038) / 4, by omega⟩
  else if h : 0x200 ≤ off ∧ off ≤ 0x37C then .skw ⟨(off - 0x200) / 4, by omega⟩
  else if h : 0x400 ≤ off ∧ off ≤ 0x57C then .scrw ⟨(off - 0x400) / 4, by omega⟩
  else .reserved

/-- What a read of a register returns (R52): `CMD` and reserved offsets read zero. -/
def readReg (s : State) : Reg → Word
  | .cmd => 0
  | .status => s.status
  | .keyw j => wordAt s.key j.val (by omega)
  | .dinw j => wordAt s.din j.val (by omega)
  | .doutw j => wordAt s.dout j.val (by omega)
  | .skw i => s.sk[i]
  | .scrw i => s.scr[i]
  | .reserved => 0

/-- What a write of a register does (R52): a write of `CMD` executes the word, `KEY` and `DIN` are written in error mode
too, and everything else ignores the write. -/
def writeReg (r : Reg) (v : Word) (s : State) : Host.Outcome State Fault Refusal :=
  match r with
  | .cmd => execute v s
  | .keyw j => .next (s.setKey (setWordAt s.key j.val v))
  | .dinw j => .next (s.setDin (setWordAt s.din j.val v))
  | .status => .next s
  | .doutw _ => .next s
  | .skw _ => .next s
  | .scrw _ => .next s
  | .reserved => .next s

/-- `RegRead(off)` (R52). -/
def regRead (s : State) (off : Nat) : Word := readReg s (regAt off)

/-- `RegWrite(off, v)` (R52). -/
def regWrite (off : Nat) (v : Word) (s : State) : Host.Outcome State Fault Refusal :=
  writeReg (regAt off) v s

/-- An offset of the window (R50, R52): a multiple of 4 from 0 to 0x7FC. -/
def inWindow (off : Int) : Bool := decide (0 ≤ off ∧ off ≤ 0x7FC ∧ off % 4 = 0)

/-- A host read (R54): an aligned 32-bit read inside the window returns the register, and no other read has a meaning. -/
def hostRead (off : Int) (w : Width) (s : State) : Host.Outcome State Fault Refusal :=
  if w = .w32 ∧ inWindow off then .next { s with reads := s.reads ++ [regRead s off.toNat] }
  else .refused .undefinedAccess

/-- A host write (R54): an aligned 32-bit write inside the window is performed, and no other write has a meaning. -/
def hostWrite (off : Int) (d : BusData) (s : State) : Host.Outcome State Fault Refusal :=
  match d with
  | .u32 v => if inWindow off then regWrite off.toNat v s else .refused .undefinedAccess
  | .u8 _ => .refused .undefinedAccess
  | .u16 _ => .refused .undefinedAccess
  | .u64 _ => .refused .undefinedAccess

/-- One host event, performed in full before the next (R58). A reset clears the block as `CLR` does (R220). -/
def perform (e : HostEvent) (s : State) : Host.Outcome State Fault Refusal :=
  match e with
  | .read off w => hostRead off w s
  | .write off d => hostWrite off d s
  | .reset => .next s.clear

/-- A step of the block: the host's next event, or, with none pending, an idle block that "holds its state unchanged"
(spec/60_exceptions.md R214; log 3). -/
def stepBlock (s : State) : Host.Outcome State Fault Refusal :=
  match s.pending with
  | [] => .next s
  | e :: rest => perform e { s with pending := rest }

/-- The host access that hands the engine a command word: `WR 0x000, w` (spec/30_encoding.md R79). -/
def commandAccess (w : Word) : HostEvent := .write 0x000 (.u32 w)

/-- A state whose next event is one given access, before everything already pending. -/
def State.withNext (e : HostEvent) (s : State) : State := { s with pending := e :: s.pending }

end Sys2Proof.Machine
end

