-- ==== Sys2Proof/Machine/Step.lean ====
section
/-! DEFINITION. The step of the machine, and how a command is placed where the next step takes it from. Everything they do
is defined in Machine/Window.lean. -/

namespace Sys2Proof.Machine

/-- One step: the host's next access (or reset) in full, or nothing where the host has none pending. -/
def step (s : State) : Host.Outcome State Fault Refusal := stepBlock s

/-- `s` with the host about to write the command word `w` to `CMD`: the block has no program counter (spec/10_state.md
R22), and the place it takes its next command from is the host's next access (logs 10, 16). -/
def State.withFetchWord (s : State) (nbits w : Nat) : State :=
  s.withNext (commandAccess (BitVec.ofNat 32 (w % 2 ^ nbits)))

end Sys2Proof.Machine
end

