-- ==== Sys2Proof/Config.lean ====
section
/-! DEFINITION. What a platform fixes and the spec leaves open: the two parameters of spec/00_scope.md R7. They are
opaque, so no proof can see a value. The block has no other open value (spec/93_implementation_defined.md, end of
section 1). -/

namespace Sys2Proof.Config

/-- Which 0x800-byte frame of the bus the window occupies. DESIGN CHOICE, safe, log 6: `BASE` is "a multiple of 0x800"
(R7), so it is written as a multiple of an unknown number. -/
opaque windowFrame : Nat

/-- `BASE`, the bus address of register offset 0 (R7). -/
def base : Nat := 0x800 * windowFrame

/-- `LATENCY(c)`: the time a command takes (R7, R230). "no rule reads it", and nothing in the model does; log 7. -/
opaque latency : Instr → Nat

end Sys2Proof.Config
end

