-- ==== Sys2Proof/Machine/Bus.lean ====
section
/-! DEFINITION. Bus addresses (spec/00_scope.md R7, R14; spec/20_memory.md R50, R52): the accesses of the host by the
address the platform's bus carries, turned into accesses of the window (log 6). -/

namespace Sys2Proof.Machine

/-- `MemRead(addr, n)` (R14) as a host event: a read of the window at `addr - BASE`. -/
def memRead (addr : Nat) (w : Width) : HostEvent := .read ((addr : Int) - (Config.base : Int)) w

/-- `MemWrite(addr, n, v)` (R14) as a host event: a write of the window at `addr - BASE`. -/
def memWrite (addr : Nat) (d : BusData) : HostEvent := .write ((addr : Int) - (Config.base : Int)) d

end Sys2Proof.Machine
end

