-- ==== Sys2Proof/Machine/Fips.lean ====
section
/-! DEFINITION. The FIPS forms: the published DES by its tables and FIPS bit numbering. The spec gives every algorithm
in this form beside the word form, says that the two define the same function, and lets the FIPS form govern (spec/40 R91,
spec/41 introduction, spec/43 introduction). The engine runs the word forms; Certificates/Slice0 states that they agree
(log 11). -/

namespace Sys2Proof.Machine

/-! ### S-boxes (R93, R95) -/

/-- `row(i)` (R93): the first and the last bit. -/
def sboxRow (i : BitVec 6) : BitVec 2 := i.extractLsb' 5 1 ++ i.extractLsb' 0 1

/-- `col(i)` (R93): the middle four bits. -/
def sboxCol (i : BitVec 6) : BitVec 4 := i.extractLsb' 1 4

/-- `sbox(k, i)` (R93), with the S-box numbered `k + 1` by `k`. -/
def sbox (k : Fin 8) (i : BitVec 6) : BitVec 4 :=
  ((publishedS k)[(sboxRow i).toNat]'(sboxRow i).isLt)[(sboxCol i).toNat]'(sboxCol i).isLt

/-- The entry of `SB<k+1>` as R95 defines it: the S-box output in its place before `P`, then `P`, then one rotation. -/
def sbPublished (k : Fin 8) (i : BitVec 6) : Word :=
  rol32 (perm ((sbox k i).setWidth 32 <<< (4 * (7 - k.val))) tableP) 1

/-- `SB1` to `SB8` by number less one, as listed (R96 to R103). -/
def sbListed (k : Fin 8) : Vector Word 64 := #v[sb1, sb2, sb3, sb4, sb5, sb6, sb7, sb8][k]

/-! ### Key schedule (R114, R115, R117) -/

/-- PC1 in FIPS form (R114): `C = CD[55:28]`, `D = CD[27:0]`. -/
def fipsPC1 (k64 : U64) : KeyRegs :=
  let cd : BitVec 56 := perm k64 tablePC1
  ⟨cd.extractLsb' 28 28, cd.extractLsb' 0 28⟩

/-- PC2 in FIPS form (R117): the 48-bit round key of the rotated registers. -/
def fipsPC2 (r : KeyRegs) : BitVec 48 := perm (r.c ++ r.d) tablePC2

/-- Group `g<j>` of a round key (R117), `1 <= j <= 8`: the bits `K[53-6j : 48-6j]`. -/
def keyGroup (k : BitVec 48) (j : Nat) : BitVec 6 := k.extractLsb' (48 - 6 * j) 6

/-- The packing of a round key into a round pair (R117). -/
def packRoundKey (k : BitVec 48) : RoundPair :=
  ⟨((keyGroup k 2).setWidth 32 <<< 24) ||| ((keyGroup k 4).setWidth 32 <<< 16) |||
     ((keyGroup k 6).setWidth 32 <<< 8) ||| (keyGroup k 8).setWidth 32,
   ((keyGroup k 1).setWidth 32 <<< 24) ||| ((keyGroup k 3).setWidth 32 <<< 16) |||
     ((keyGroup k 5).setWidth 32 <<< 8) ||| (keyGroup k 7).setWidth 32⟩

/-- The published round keys `K(1)` to `K(16)` of a key (R114, R115, R117); `K(i+1)` is entry `i`. -/
def fipsRoundKeys (key : Key) : Vector (BitVec 48) 16 :=
  Vector.ofFn fun i : Fin 16 => fipsPC2 (regsAfter (fipsPC1 (toU64 key)) (i.val + 1))

/-- A schedule that holds 16 given round keys in order (R117, R118). -/
def packSchedule (k : Vector (BitVec 48) 16) : Schedule :=
  Vector.ofFn fun j : Fin 32 =>
    let p := packRoundKey (k[j.val / 2]'(by omega))
    if j.val % 2 = 0 then p.even else p.odd

/-! ### The permutations (R147, R149) -/

/-- The published `L0`, `R0` of a block (R147). -/
def fipsIP (b : U64) : Halves :=
  let q : U64 := perm b tableIP
  ⟨q.extractLsb' 32 32, q.extractLsb' 0 32⟩

/-- `ip` in FIPS form (R147): the published halves, each rotated left by one. -/
def ipFips (h : Halves) : Halves :=
  let q := fipsIP (h.left ++ h.right)
  ⟨rol32 q.left 1, rol32 q.right 1⟩

/-- `fp` in FIPS form (R149). -/
def fpFips (h : Halves) : Halves :=
  let a : U64 := ror32 h.left 1 ++ ror32 h.right 1
  let q : U64 := perm a tableFP
  ⟨q.extractLsb' 32 32, q.extractLsb' 0 32⟩

/-! ### Rounds and pass (R158, R160, R162) -/

/-- The eight S-boxes on a 48-bit value, `S1` on the most significant group (R158). -/
def fipsSubstitute (v : BitVec 48) : Word :=
  sbox 0 (v.extractLsb' 42 6) ++ sbox 1 (v.extractLsb' 36 6) ++ sbox 2 (v.extractLsb' 30 6) ++
    sbox 3 (v.extractLsb' 24 6) ++ sbox 4 (v.extractLsb' 18 6) ++ sbox 5 (v.extractLsb' 12 6) ++
    sbox 6 (v.extractLsb' 6 6) ++ sbox 7 (v.extractLsb' 0 6)

/-- The published cipher function `f(R, K)` (R158). -/
def fipsF (r : Word) (k : BitVec 48) : Word :=
  perm (fipsSubstitute ((perm r tableE : BitVec 48) ^^^ k)) tableP

/-- One published round (R160): `L(n) = R(n-1)`, `R(n) = L(n-1) ^ f(R(n-1), K(n))`. -/
def fipsRound (h : Halves) (k : BitVec 48) : Halves := ⟨h.right, h.left ^^^ fipsF h.right k⟩

/-- `L(n)`, `R(n)` (R160): the first `n` published rounds from `L0`, `R0`. -/
def fipsRounds (k : Vector (BitVec 48) 16) (h : Halves) (n : Nat) : Halves :=
  (k.toList.take n).foldl fipsRound h

/-- The pass in FIPS form (R162): `perm((R(16) << 32) | L(16), 64, FP)`. -/
def fipsPass (k : Vector (BitVec 48) 16) (b : U64) : U64 :=
  let h := fipsRounds k (fipsIP b) 16
  perm (h.right ++ h.left) tableFP

/-- The published single-DES encryption of a block under a key (R1, R162). -/
def desEncrypt (key : Key) (b : U64) : U64 := fipsPass (fipsRoundKeys key) b

/-- The published single-DES decryption: the same rounds with the round keys in reverse order (R119). -/
def desDecrypt (key : Key) (b : U64) : U64 := fipsPass (fipsRoundKeys key).reverse b

/-- Triple-DES encryption (R131): encrypt under `k1`, decrypt under `k2`, encrypt under `k3`. -/
def tdesEncrypt (k1 k2 k3 : Key) (b : U64) : U64 := desEncrypt k3 (desDecrypt k2 (desEncrypt k1 b))

/-- Triple-DES decryption (R131): "the exact inverse order". -/
def tdesDecrypt (k1 k2 k3 : Key) (b : U64) : U64 := desDecrypt k1 (desEncrypt k2 (desDecrypt k3 b))

end Sys2Proof.Machine
end

