-- ==== Sys2Proof/Machine/Pseudo.lean ====
section
/-! DEFINITION. The pseudo-operations (spec/30_encoding.md R80): "each is a macro over the lines of rule R79, not a command
of its own". A pseudo-operation is the list of host events it expands to. -/

namespace Sys2Proof.Machine

/-- `WR off, value` (R79). -/
def wr (off : Nat) (v : Word) : HostEvent := .write off (.u32 v)

/-- `RD off` (R79). -/
def rd (off : Nat) : HostEvent := .read off .w32

/-- `CMD mnemonic` (R79). -/
def cmd (i : Instr) : HostEvent := wr 0x000 (encode i)

/-- The two bits of a slot number. -/
def slotBits (k : Fin 3) : BitVec 2 := BitVec.ofNat 2 k.val

/-- `LOADKEY s, K`. -/
def loadKey (k : Fin 3) (key : Key) : List HostEvent :=
  [wr (0x010 + 8 * k.val) (hiWord key), wr (0x014 + 8 * k.val) (loWord key)]

/-- `LOADBLK B`. -/
def loadBlk (b : Block) : List HostEvent := [wr 0x030 (hiWord b), wr 0x034 (loWord b)]

/-- `READBLK`; the block is `bytesOf` of the two values read. -/
def readBlk : List HostEvent := [rd 0x038, rd 0x03C]

/-- `READKEY s`. -/
def readKey (k : Fin 3) : List HostEvent := [rd (0x010 + 8 * k.val), rd (0x014 + 8 * k.val)]

/-- `READFLAG`; the flag is bit 0 of the value read. -/
def readFlag : List HostEvent := [rd 0x004]

/-- `des_setkey_enc K1`. -/
def desSetkeyEnc (k1 : Key) : List HostEvent := loadKey 0 k1 ++ [cmd .ks1E]

/-- `des_setkey_dec K1`. -/
def desSetkeyDec (k1 : Key) : List HostEvent := loadKey 0 k1 ++ [cmd .ks1D]

/-- `des3_set2key_enc K1, K2`. -/
def des3Set2keyEnc (k1 k2 : Key) : List HostEvent := loadKey 0 k1 ++ loadKey 1 k2 ++ [cmd .ks2E]

/-- `des3_set2key_dec K1, K2`. -/
def des3Set2keyDec (k1 k2 : Key) : List HostEvent := loadKey 0 k1 ++ loadKey 1 k2 ++ [cmd .ks2D]

/-- `des3_set3key_enc K1, K2, K3`. -/
def des3Set3keyEnc (k1 k2 k3 : Key) : List HostEvent :=
  loadKey 0 k1 ++ loadKey 1 k2 ++ loadKey 2 k3 ++ [cmd .ks3E]

/-- `des3_set3key_dec K1, K2, K3`. -/
def des3Set3keyDec (k1 k2 k3 : Key) : List HostEvent :=
  loadKey 0 k1 ++ loadKey 1 k2 ++ loadKey 2 k3 ++ [cmd .ks3D]

/-- `des_encrypt B`, after `des_setkey_enc`; `des_decrypt B` is the same list after `des_setkey_dec`. -/
def desBlock (b : Block) : List HostEvent := loadBlk b ++ [cmd .crypt1] ++ readBlk

/-- `des3_encrypt B`, after a `des3_set*_enc`; `des3_decrypt B` is the same list after a `des3_set*_dec`. -/
def des3Block (b : Block) : List HostEvent := loadBlk b ++ [cmd .crypt3] ++ readBlk

/-- `set_odd_parity s`. -/
def setOddParityOp (k : Fin 3) : List HostEvent := [cmd (.parset (slotBits k))] ++ readKey k

/-- `check_odd_parity s`. -/
def checkOddParityOp (k : Fin 3) : List HostEvent := [cmd (.parchk (slotBits k))] ++ readFlag

/-- `check_weak s`. -/
def checkWeakOp (k : Fin 3) : List HostEvent := [cmd (.weakchk (slotBits k))] ++ readFlag

end Sys2Proof.Machine
end

