-- ==== Sys2Proof/Safety.lean ====
section
/-! DEFINITION. What a good state and a safe run are, in the terms the claims use: the invariants of spec/10_state.md R37,
the groups of commands that share a frame (R39), and the sets of words and offsets the rules speak of. -/

namespace Sys2Proof.Machine

/-- The bits of a schedule word that carry no key bit (R37 item 5; spec/41_key_schedule.md R117). -/
def fixedZeroBits : Word := 0xC0C0C0C0

/-- The context is what a key-schedule command built from some key in the direction `DIR` (R25, R37 item 6), or it is
empty. A two-key schedule is the three-key one with the first key again (spec/42_cascade_key_composer.md R139). -/
def State.ContextBuilt (s : State) : Prop :=
  match s.sklen, s.dir with
  | .empty, .enc => s.sk = zeros 96
  | .empty, .dec => False
  | .single, .enc => ∃ k, s.sk = singleContext (generateSchedule k)
  | .single, .dec => ∃ k, s.sk = singleContext (reversePairs (generateSchedule k))
  | .cascade, .enc => ∃ k1 k2 k3, s.sk = compose3Enc k1 k2 k3
  | .cascade, .dec => ∃ k1 k2 k3, s.sk = compose3Dec k1 k2 k3

/-- The invariants of the block (R37). Item 1 holds by the types of `SKLEN` and `ERR` (log 8). -/
structure State.Inv (s : State) : Prop where
  /-- Item 2: the scratch is zero. -/
  scratchZero : s.scr = zeros 96
  /-- Item 3: an empty context has direction 0 and an all-zero schedule. -/
  emptyContext : s.sklen = .empty → s.dir = .enc ∧ s.sk = zeros 96
  /-- Item 4: a one-key schedule leaves words 32 to 95 zero. -/
  singleContext : s.sklen = .single → ∀ i : Fin 96, 32 ≤ i.val → s.sk[i] = 0
  /-- Item 5: the fixed zero bits of every schedule word. -/
  fixedZero : ∀ i : Fin 96, s.sk[i] &&& fixedZeroBits = 0
  /-- Item 6, as far as one state shows it: the schedule is that of some key. -/
  contextBuilt : s.ContextBuilt

/-- The block of two states is the same: they may differ only in what the host has pending and has read. -/
def SameBlock (s t : State) : Prop :=
  t = { s with pending := t.pending, reads := t.reads }

/-- The six key-schedule commands (spec/30_encoding.md R73). -/
def isKeySchedule : Instr → Bool
  | .ks1E | .ks2E | .ks3E | .ks1D | .ks2D | .ks3D => true
  | .clr | .crypt1 | .crypt3 | .parset _ | .parchk _ | .weakchk _ => false

/-- The two block commands (R74). -/
def isBlock : Instr → Bool
  | .crypt1 | .crypt3 => true
  | .clr | .ks1E | .ks2E | .ks3E | .ks1D | .ks2D | .ks3D | .parset _ | .parchk _ | .weakchk _ => false

/-- The two predicate commands (spec/10_state.md R31). -/
def isPredicate : Instr → Bool
  | .parchk _ | .weakchk _ => true
  | .clr | .ks1E | .ks2E | .ks3E | .ks1D | .ks2D | .ks3D | .crypt1 | .crypt3 | .parset _ => false

/-- The schedule length a block command consumes (spec/60_exceptions.md R202). -/
def schedNeeded : Instr → Option SchedLen
  | .crypt1 => some .single
  | .crypt3 => some .cascade
  | .clr | .ks1E | .ks2E | .ks3E | .ks1D | .ks2D | .ks3D | .parset _ | .parchk _ | .weakchk _ => none

/-- The 18 defined command words with their commands, as spec/30_encoding.md R77 lists them. -/
def definedCommands : List (Word × Instr) :=
  [(0x01, .clr), (0x10, .ks1E), (0x11, .ks2E), (0x12, .ks3E), (0x14, .ks1D), (0x15, .ks2D), (0x16, .ks3D),
   (0x20, .crypt1), (0x21, .crypt3), (0x30, .parset 0), (0x31, .parset 1), (0x32, .parset 2),
   (0x34, .parchk 0), (0x35, .parchk 1), (0x36, .parchk 2), (0x38, .weakchk 0), (0x39, .weakchk 1), (0x3A, .weakchk 2)]

/-- The reserved words of R78, range by range. -/
def reservedWord (w : Word) : Bool :=
  let c := (w &&& 0xFF).toNat
  w >>> 8 != 0 || c == 0x00 || (0x02 ≤ c && c ≤ 0x0F) || c == 0x13 || c == 0x17 || (0x18 ≤ c && c ≤ 0x1F) ||
    (0x22 ≤ c && c ≤ 0x2F) || c == 0x33 || c == 0x37 || c == 0x3B || (0x3C ≤ c && c ≤ 0x3F) || (0x40 ≤ c && c ≤ 0xFF)

/-- The offset is a writable buffer register: `KEYW` or `DINW` (spec/20_memory.md R51). -/
def bufferOffset (off : Nat) : Bool := (0x010 ≤ off && off ≤ 0x024) || (0x030 ≤ off && off ≤ 0x034)

/-- The number of one bits of a byte (spec/45_key_hygiene.md R175). -/
def ones (b : Byte) : Nat := (List.range 8).countP fun i => b.getLsbD i

/-- Two key bytes agree in the seven key bits (spec/41_key_schedule.md R114). -/
def sameKeyBits (a b : Key) : Prop := ∀ i : Fin 8, a[i].extractLsb' 1 7 = b[i].extractLsb' 1 7

/-- In error mode the command changes nothing (spec/60_exceptions.md R207). -/
def IgnoredInErrorMode (i : Instr) : Prop := ∀ s : State, s.err ≠ none → exec i s = .next s

/-- Outside error mode, where the key slots meet `eq`, `CRYPT3` with the schedule of `ks` gives what `CRYPT1` gives with the
schedule of `ks1`: the three passes collapse to one (spec/42_cascade_key_composer.md R139). -/
def CollapsesTo (ks ks1 : Instr) (eq : State → Prop) : Prop :=
  ∀ s t u t' u' : State, s.err = none → eq s → exec ks s = .next t → exec .crypt3 t = .next u →
    exec ks1 s = .next t' → exec .crypt1 t' = .next u' → u.dout = u'.dout

/-- Run alone from `s`, the host events `ops` all complete, and the values the host reads are `vs`. -/
def Returns (s : State) (ops : List HostEvent) (vs : List Word) : Prop :=
  ∃ t, Sys2Proof.core.run ops.length { s with pending := ops } = .next t ∧ t.pending = [] ∧ t.reads = s.reads ++ vs

/-- Run alone from `s`, the host events `ops` all complete, and what the host reads is one block, left half first. -/
def ReturnsBlock (s : State) (ops : List HostEvent) (b : Block) : Prop := Returns s ops [hiWord b, loWord b]

/-- Run alone from `s`, the host events `ops` all complete, and what the host reads is one word with the flag `v` in bit 0. -/
def ReturnsFlag (s : State) (ops : List HostEvent) (v : Bool) : Prop := ∃ w : Word, Returns s ops [w] ∧ w.getLsbD 0 = v

/-- The mask of a substitution table, numbered less one (spec/40_sbox_array.md R104). -/
def sbMask (k : Fin 8) : Word :=
  #v[0x01010404, 0x80108020, 0x08020208, 0x00802081, 0x42080100, 0x20404010, 0x04200802, 0x10041040][k]

/-- The keys of the spec's examples (spec/42_cascade_key_composer.md section 2). -/
def exampleKey1 : Key := #v[0x13, 0x34, 0x57, 0x79, 0x9B, 0xBC, 0xDF, 0xF1]

def exampleKey2 : Key := #v[0x0E, 0x32, 0x92, 0x32, 0xEA, 0x6D, 0x0D, 0x73]

def exampleKey3 : Key := #v[0xA1, 0xB2, 0xC3, 0xD4, 0xE5, 0xF6, 0x07, 0x18]

/-- The block of the spec's examples (spec/44_feistel_engine.md R165). -/
def exampleBlock : Block := #v[0x01, 0x23, 0x45, 0x67, 0x89, 0xAB, 0xCD, 0xEF]

/-- The three keys of the NIST example (spec/44_feistel_engine.md R166). -/
def nistKey1 : Key := #v[0x01, 0x23, 0x45, 0x67, 0x89, 0xAB, 0xCD, 0xEF]

def nistKey2 : Key := #v[0x23, 0x45, 0x67, 0x89, 0xAB, 0xCD, 0xEF, 0x01]

def nistKey3 : Key := #v[0x45, 0x67, 0x89, 0xAB, 0xCD, 0xEF, 0x01, 0x23]

/-- A state with given bytes in every slot, otherwise the reset state. -/
def stateWithKeys (k1 k2 k3 : Key) : State := { State.reset with key := k1 ++ k2 ++ k3 }

end Sys2Proof.Machine
end

