-- ==== Sys2Proof/Certificates/Slice0/Obligations.lean ====
section
/-! DEFINITION. The statements for the provers. Each docstring names the rule of spec/ it formalises. -/

open Sys2Proof Sys2Proof.Machine

/-! ### Encoding -/

/-- spec/30_encoding.md R77: the defined command words are exactly the 18 of the table, each with its command. -/
def Obligations.DecodeAcceptsExactlyTheTable : Prop :=
  ∀ (w : Word) (i : Instr), decode w = some i ↔ (w, i) ∈ definedCommands

/-- spec/30_encoding.md R78, spec/60_exceptions.md R201: the reserved words are exactly those listed, and outside error mode
each raises `IllegalCommand`, code 1, and does nothing else. -/
def Obligations.ReservedWordsRaiseIllegalCommand : Prop :=
  (∀ w : Word, decode w = none ↔ reservedWord w = true) ∧
  (∀ (w : Word) (s : State), reservedWord w = true → s.err = none →
    execute w s = .next { s with err := some .illegalCommand }) ∧
  CmdError.illegalCommand.code = 1

/-- spec/30_encoding.md R72 to R75, R81: the decoder and the encoder are inverse; a word decodes to a command exactly when
the command is well formed and the word is its encoding. -/
def Obligations.DecodeInvertsEncode : Prop :=
  ∀ (w : Word) (i : Instr), decode w = some i ↔ i.wellFormed = true ∧ encode i = w

/-- spec/30_encoding.md R77: words written out from the table, one for each format and field value. -/
def Obligations.SpecWordsDecodeToTheirCommands : Prop :=
  decode 0b00000000000000000000000000000001#32 = some .clr ∧
  decode 0b00000000000000000000000000010110#32 = some .ks3D ∧
  decode 0b00000000000000000000000000010001#32 = some .ks2E ∧
  decode 0b00000000000000000000000000100001#32 = some .crypt3 ∧
  decode 0b00000000000000000000000000110010#32 = some (.parset 2#2) ∧
  decode 0b00000000000000000000000000110101#32 = some (.parchk 1#2) ∧
  decode 0b00000000000000000000000000111000#32 = some (.weakchk 0#2)

/-! ### Steps, command execution, errors -/

/-- spec/30_encoding.md section 6: when the host's next access writes a command word that decodes to `i`, the step is
`exec i` of the state with that access taken from the queue. -/
def Obligations.StepRunsTheDecodedCommand : Prop :=
  (∀ (s : State) (w : Word) (i : Instr) (rest : List HostEvent),
    s.pending = .write 0x000 (.u32 w) :: rest → decode w = some i → step s = exec i { s with pending := rest }) ∧
  (∀ (s : State) (nbits w : Nat) (i : Instr), decodeTableWord nbits w = some i →
    step (s.withFetchWord nbits w) = exec i s)

/-- spec/30_encoding.md R82, spec/60_exceptions.md R206: first error mode, then decoding, then the length precondition, then
the operation, which always completes. -/
def Obligations.ExecuteTestsInFixedOrder : Prop :=
  ∀ (w : Word) (s : State),
    (s.err ≠ none → decode w = some .clr →
      execute w s = .next { State.reset with pending := s.pending, reads := s.reads }) ∧
    (s.err ≠ none → decode w ≠ some .clr → execute w s = .next s) ∧
    (s.err = none → decode w = none → execute w s = .next { s with err := some .illegalCommand }) ∧
    (∀ i n, s.err = none → decode w = some i → schedNeeded i = some n → s.sklen ≠ n →
      execute w s = .next { s with err := some .invalidLength }) ∧
    (∀ i, s.err = none → decode w = some i → (∀ n, schedNeeded i = some n → s.sklen = n) →
      ∃ t, execute w s = .next t ∧ exec i s = .next t ∧ t.err = none)

/-- spec/60_exceptions.md R207: in error mode every command word but that of `CLR` is ignored, `CLR` ends the mode, and
register reads and register writes other than of `CMD` work as always: a write of a `KEY` or `DIN` register stores its four
bytes and changes nothing else. -/
def Obligations.ErrorModeIgnoresEverythingButClr : Prop :=
  ∀ (s : State) (e : CmdError) (rest : List HostEvent), s.err = some e →
    (∀ w : Word, w ≠ 0x00000001 → s.pending = .write 0x000 (.u32 w) :: rest → step s = .next { s with pending := rest }) ∧
    (s.pending = .write 0x000 (.u32 0x00000001) :: rest →
      step s = .next { State.reset with pending := rest, reads := s.reads }) ∧
    (∀ off : Nat, inWindow off = true → s.pending = .read off .w32 :: rest →
      step s = .next { s with pending := rest, reads := s.reads ++ [regRead s off] }) ∧
    (∀ (off : Nat) (v : Word), inWindow off = true → off ≠ 0x000 → s.pending = .write off (.u32 v) :: rest →
      step s = regWrite off v { s with pending := rest }) ∧
    (∀ (j : Fin 6) (v : Word), s.pending = .write (0x010 + 4 * j.val : Nat) (.u32 v) :: rest →
      ∃ t, step s = .next t ∧ t = { s with key := t.key, pending := rest } ∧ regRead t (0x010 + 4 * j.val) = v ∧
        ∀ i : Fin 24, t.key[i] = if i.val / 4 = j.val then (unbe32 v)[i.val % 4]'(by omega) else s.key[i]) ∧
    (∀ (j : Fin 2) (v : Word), s.pending = .write (0x030 + 4 * j.val : Nat) (.u32 v) :: rest →
      ∃ t, step s = .next t ∧ t = { s with din := t.din, pending := rest } ∧ regRead t (0x030 + 4 * j.val) = v ∧
        ∀ i : Fin 8, t.din[i] = if i.val / 4 = j.val then (unbe32 v)[i.val % 4]'(by omega) else s.din[i])

/-- spec/60_exceptions.md R205: a command that raises an error writes its code to `ERR` and changes nothing else. -/
def Obligations.ErrorEntryWritesOnlyErr : Prop :=
  (∀ (w : Word) (s t : State) (e : CmdError), s.err = none → execute w s = .next t → t.err = some e →
    t = { s with err := some e }) ∧
  errCode (some .illegalCommand) = 1 ∧ errCode (some .invalidLength) = 2

/-- spec/60_exceptions.md R202: the six cases of a block command and a schedule length. -/
def Obligations.BlockCommandsNeedTheirScheduleLength : Prop :=
  (∀ s : State, s.err = none →
    (s.sklen = .empty → exec .crypt1 s = .next { s with err := some .invalidLength }) ∧
    (s.sklen = .single → ∃ t, exec .crypt1 s = .next t ∧ t.err = none) ∧
    (s.sklen = .cascade → exec .crypt1 s = .next { s with err := some .invalidLength }) ∧
    (s.sklen = .empty → exec .crypt3 s = .next { s with err := some .invalidLength }) ∧
    (s.sklen = .single → exec .crypt3 s = .next { s with err := some .invalidLength }) ∧
    (s.sklen = .cascade → ∃ t, exec .crypt3 s = .next t ∧ t.err = none)) ∧
  CmdError.invalidLength.code = 2

/-- spec/60_exceptions.md R200, R204: an error is raised by a write of `CMD` and by nothing else: `IllegalCommand` by a
reserved word, `InvalidLength` by a block command whose schedule length is not the one held. So no defined word but a
block command's raises one, whatever key, parity, slots or schedule it meets; a command that raised none raises none when
repeated; and no other access raises one. -/
def Obligations.ErrorsComeOnlyFromCommandWrites : Prop :=
  (∀ (s t : State) (e : CmdError), s.err = none → step s = .next t → t.err = some e →
    ∃ (w : Word) (rest : List HostEvent), s.pending = .write 0x000 (.u32 w) :: rest ∧
      ((e = .illegalCommand ∧ decode w = none) ∨
       (e = .invalidLength ∧ ∃ i n, decode w = some i ∧ schedNeeded i = some n ∧ s.sklen ≠ n))) ∧
  (∀ (w : Word) (i : Instr) (s : State), s.err = none → decode w = some i → isBlock i = false →
    ∃ t, execute w s = .next t ∧ t.err = none) ∧
  (∀ (w : Word) (s t : State), s.err = none → execute w s = .next t → t.err = none →
    ∃ u, execute w t = .next u ∧ u.err = none) ∧
  (∀ (s : State) (off : Nat) (rest : List HostEvent), inWindow off = true → s.err = none →
    (s.pending = .read off .w32 :: rest ∨ (off ≠ 0x000 ∧ ∃ v, s.pending = .write off (.u32 v) :: rest)) →
    ∃ t, step s = .next t ∧ t.err = none) ∧
  (∀ (s t : State), (∀ w rest, s.pending ≠ .write 0x000 (.u32 w) :: rest) → s.err = none → step s = .next t →
    t.err = none) ∧
  errCode none = 0 ∧ errCode (some .illegalCommand) = 1 ∧ errCode (some .invalidLength) = 2

/-- spec/60_exceptions.md R208: error mode is left by `CLR` or a reset alone, and then every state element has its reset
value. -/
def Obligations.ErrorModeIsLeftOnlyByClrOrReset : Prop :=
  ∀ (s : State) (e : CmdError), s.err = some e →
    (∀ t, step s = .next t → t.err = some e ∨
      (SameBlock State.reset t ∧
        ∃ rest, s.pending = .write 0x000 (.u32 0x00000001) :: rest ∨ s.pending = .reset :: rest)) ∧
    (∀ rest, s.pending = .write 0x000 (.u32 0x00000001) :: rest ∨ s.pending = .reset :: rest →
      ∃ t, step s = .next t ∧ SameBlock State.reset t)

/-- spec/20_memory.md sections 3 and 4 (R54, R58), spec/60_exceptions.md section 4 (R214): accesses are performed one a step
in the order issued, each complete before the next. A step takes exactly the oldest pending event, and a read alone
returns a value (the two lists are the model's form of the host, logs 1 and 2). An aligned 32-bit access inside the
window, and a reset, complete in every state. With nothing pending the block holds its state (log 3). -/
def Obligations.StepTakesTheOldestEvent : Prop :=
  (∀ (s t : State) (e : HostEvent) (rest : List HostEvent), s.pending = e :: rest → step s = .next t →
    t.pending = rest ∧ ∃ vs, t.reads = s.reads ++ vs ∧ vs.length = (match e with | .read _ _ => 1 | _ => 0)) ∧
  (∀ (s : State) (e : HostEvent) (rest : List HostEvent), s.pending = e :: rest →
    (e = .reset ∨ ∃ off : Nat, inWindow off = true ∧ (e = .read off .w32 ∨ ∃ v, e = .write off (.u32 v))) →
    ∃ t, step s = .next t) ∧
  (∀ s : State, s.pending = [] → step s = .next s)

/-! ### Key-schedule commands -/

/-- spec/41_key_schedule.md R122: `KS1.E`. -/
def Obligations.Ks1EBuildsTheEncryptionSchedule : Prop :=
  decode 0x00000010 = some .ks1E ∧
  (∀ s : State, s.err = none →
    exec .ks1E s = .next { s with
      sk := generateSchedule (s.slot 0) ++ (zeros 64 : Vector Word 64)
      scr := zeros 96
      sklen := .single
      dir := .enc }) ∧
  IgnoredInErrorMode .ks1E ∧
  (∀ s t : State, s.err = none → exec .ks1E s = .next t → exec .ks1E t = .next t ∧ t.status &&& 0xE = 0x2) ∧
  (∀ s t : State, s.err = none → s.flag = false → s.slot 0 = exampleKey1 → exec .ks1E s = .next t →
    t.sk[0] = 0x302F0732 ∧ t.sk[1] = 0x060B3F01 ∧ t.sk[30] = 0x330B2135 ∧ t.sk[31] = 0x3236031F ∧ t.sk[32] = 0 ∧
    t.status = 0x00000002)

/-- spec/41_key_schedule.md R123: `KS1.D`. -/
def Obligations.Ks1DBuildsTheDecryptionSchedule : Prop :=
  decode 0x00000014 = some .ks1D ∧
  (∀ s : State, s.err = none →
    exec .ks1D s = .next { s with
      sk := reversePairs (generateSchedule (s.slot 0)) ++ (zeros 64 : Vector Word 64)
      scr := zeros 96
      sklen := .single
      dir := .dec }) ∧
  IgnoredInErrorMode .ks1D ∧
  (∀ (j : Fin 4) (w : Key) (s t u : State), weakKeys[j.val]? = some w → s.err = none → s.slot 0 = w →
    exec .ks1E s = .next t → exec .ks1D s = .next u → u = { t with dir := .dec }) ∧
  (∀ s t u v w : State, s.err = none → exec .ks1E s = .next t → exec .crypt1 t = .next u →
    exec .ks1D { u with din := u.dout } = .next v → exec .crypt1 v = .next w → w.dout = s.din) ∧
  (∀ s t : State, s.err = none → exec .ks1D s = .next t → exec .ks1D t = .next t ∧ t.status &&& 0xE = 0xA) ∧
  (∀ s t : State, s.err = none → s.flag = false → s.slot 0 = exampleKey1 → exec .ks1D s = .next t →
    t.sk[0] = 0x330B2135 ∧ t.sk[1] = 0x3236031F ∧ t.sk[30] = 0x302F0732 ∧ t.sk[31] = 0x060B3F01 ∧
    t.status = 0x0000000A)

/-- spec/42_cascade_key_composer.md R135: `KS2.E`. -/
def Obligations.Ks2EBuildsTheTwoKeyEncryptionSchedule : Prop :=
  decode 0x00000011 = some .ks2E ∧
  (∀ s : State, s.err = none →
    exec .ks2E s = .next { s with
      sk := generateSchedule (s.slot 0) ++ reversePairs (generateSchedule (s.slot 1)) ++ generateSchedule (s.slot 0)
      scr := zeros 96
      sklen := .cascade
      dir := .enc }) ∧
  IgnoredInErrorMode .ks2E ∧
  CollapsesTo .ks2E .ks1E (fun s => s.slot 1 = s.slot 0) ∧
  (∀ s t : State, s.err = none → exec .ks2E s = .next t →
    segment t.sk 2 = segment t.sk 0 ∧ t.status &&& 0xE = 0x4) ∧
  (∀ s t : State, s.err = none → s.flag = false → s.slot 0 = exampleKey1 → s.slot 1 = exampleKey2 →
    exec .ks2E s = .next t →
    t.sk[0] = 0x302F0732 ∧ t.sk[1] = 0x060B3F01 ∧ t.sk[32] = 0x06040327 ∧ t.sk[33] = 0x183C132B ∧
    t.sk[62] = 0x21240E21 ∧ t.sk[63] = 0x0D111E07 ∧ t.sk[64] = 0x302F0732 ∧ t.sk[95] = 0x3236031F ∧
    t.status = 0x00000004)

/-- spec/42_cascade_key_composer.md R136: `KS2.D`. -/
def Obligations.Ks2DBuildsTheTwoKeyDecryptionSchedule : Prop :=
  decode 0x00000015 = some .ks2D ∧
  (∀ s : State, s.err = none →
    exec .ks2D s = .next { s with
      sk := reversePairs (generateSchedule (s.slot 0)) ++ generateSchedule (s.slot 1) ++
        reversePairs (generateSchedule (s.slot 0))
      scr := zeros 96
      sklen := .cascade
      dir := .dec }) ∧
  IgnoredInErrorMode .ks2D ∧
  CollapsesTo .ks2D .ks1D (fun s => s.slot 1 = s.slot 0) ∧
  (∀ s t : State, s.err = none → exec .ks2D s = .next t →
    segment t.sk 2 = segment t.sk 0 ∧ t.status &&& 0xE = 0xC) ∧
  (∀ s t : State, s.err = none → s.flag = false → s.slot 0 = exampleKey1 → s.slot 1 = exampleKey2 →
    exec .ks2D s = .next t →
    t.sk[0] = 0x330B2135 ∧ t.sk[1] = 0x3236031F ∧ t.sk[30] = 0x302F0732 ∧ t.sk[32] = 0x21240E21 ∧
    t.sk[33] = 0x0D111E07 ∧ t.sk[62] = 0x06040327 ∧ t.sk[64] = 0x330B2135 ∧ t.sk[95] = 0x060B3F01 ∧
    t.status = 0x0000000C)

/-- spec/42_cascade_key_composer.md R137: `KS3.E`. -/
def Obligations.Ks3EBuildsTheThreeKeyEncryptionSchedule : Prop :=
  decode 0x00000012 = some .ks3E ∧
  (∀ s : State, s.err = none →
    exec .ks3E s = .next { s with
      sk := generateSchedule (s.slot 0) ++ reversePairs (generateSchedule (s.slot 1)) ++ generateSchedule (s.slot 2)
      scr := zeros 96
      sklen := .cascade
      dir := .enc }) ∧
  IgnoredInErrorMode .ks3E ∧
  (∀ s : State, s.err = none → s.slot 2 = s.slot 0 → exec .ks3E s = exec .ks2E s) ∧
  (∀ s t : State, s.err = none → s.flag = false → s.slot 0 = exampleKey1 → s.slot 1 = exampleKey2 →
    s.slot 2 = exampleKey3 → exec .ks3E s = .next t →
    t.sk[0] = 0x302F0732 ∧ t.sk[32] = 0x06040327 ∧ t.sk[62] = 0x21240E21 ∧ t.sk[64] = 0x25133202 ∧
    t.sk[65] = 0x0D3E142A ∧ t.sk[94] = 0x241E3400 ∧ t.sk[95] = 0x2D3D290B ∧ t.status = 0x00000004)

/-- spec/42_cascade_key_composer.md R138: `KS3.D`. -/
def Obligations.Ks3DBuildsTheThreeKeyDecryptionSchedule : Prop :=
  decode 0x00000016 = some .ks3D ∧
  (∀ s : State, s.err = none →
    exec .ks3D s = .next { s with
      sk := reversePairs (generateSchedule (s.slot 2)) ++ generateSchedule (s.slot 1) ++
        reversePairs (generateSchedule (s.slot 0))
      scr := zeros 96
      sklen := .cascade
      dir := .dec }) ∧
  IgnoredInErrorMode .ks3D ∧
  (∀ s : State, s.err = none → s.slot 2 = s.slot 0 → exec .ks3D s = exec .ks2D s) ∧
  (∀ s t : State, s.err = none → s.flag = false → s.slot 0 = exampleKey1 → s.slot 1 = exampleKey2 →
    s.slot 2 = exampleKey3 → exec .ks3D s = .next t →
    t.sk[0] = 0x241E3400 ∧ t.sk[1] = 0x2D3D290B ∧ t.sk[30] = 0x25133202 ∧ t.sk[31] = 0x0D3E142A ∧
    t.sk[32] = 0x21240E21 ∧ t.sk[62] = 0x06040327 ∧ t.sk[64] = 0x330B2135 ∧ t.sk[94] = 0x302F0732 ∧
    t.sk[95] = 0x060B3F01 ∧ t.status = 0x0000000C)

/-! ### Block commands -/

/-- spec/44_feistel_engine.md R165: `CRYPT1`. -/
def Obligations.Crypt1ProcessesOneBlock : Prop :=
  decode 0x00000020 = some .crypt1 ∧
  (∀ s : State, s.err = none → s.sklen = .single →
    exec .crypt1 s = .next { s with dout := processBlock (segment s.sk 0) s.din }) ∧
  (∀ s : State, s.err = none → s.sklen ≠ .single →
    exec .crypt1 s = .next { s with err := some .invalidLength }) ∧
  IgnoredInErrorMode .crypt1 ∧
  (∀ s t : State, s.err = none → s.sklen = .single → exec .crypt1 s = .next t → exec .crypt1 t = .next t) ∧
  (∀ s t u : State, s.err = none → s.slot 0 = exampleKey1 → s.din = exampleBlock → exec .ks1E s = .next t →
    exec .crypt1 t = .next u → u.dout = #v[0x85, 0xE8, 0x13, 0x54, 0x0F, 0x0A, 0xB4, 0x05])

/-- spec/44_feistel_engine.md R166: `CRYPT3`. -/
def Obligations.Crypt3ProcessesOneBlock : Prop :=
  decode 0x00000021 = some .crypt3 ∧
  (∀ s : State, s.err = none → s.sklen = .cascade →
    exec .crypt3 s = .next { s with dout := processBlock3 s.sk s.din }) ∧
  (∀ s : State, s.err = none → s.sklen ≠ .cascade →
    exec .crypt3 s = .next { s with err := some .invalidLength }) ∧
  IgnoredInErrorMode .crypt3 ∧
  CollapsesTo .ks3E .ks1E (fun s => s.slot 1 = s.slot 0 ∧ s.slot 2 = s.slot 0) ∧
  (∀ s t : State, s.err = none → s.sklen = .cascade → exec .crypt3 s = .next t → exec .crypt3 t = .next t) ∧
  (∀ s t u : State, s.err = none → s.slot 0 = nistKey1 → s.slot 1 = nistKey2 → s.slot 2 = nistKey3 →
    s.din = #v[0x54, 0x68, 0x65, 0x20, 0x71, 0x75, 0x66, 0x63] → exec .ks3E s = .next t →
    exec .crypt3 t = .next u → u.dout = #v[0xA8, 0x26, 0xFD, 0x8C, 0xE5, 0x3B, 0x85, 0x5F])

/-! ### Hygiene commands and `CLR` -/

/-- spec/45_key_hygiene.md R183: `PARSET s`. -/
def Obligations.ParsetForcesOddParityOnItsSlot : Prop :=
  (∀ k : Fin 3, decode (BitVec.ofNat 32 (0x30 + k.val)) = some (.parset (slotBits k))) ∧
  (∀ (s : State) (k : Fin 3), s.err = none → ∃ t, exec (.parset (slotBits k)) s = .next t ∧
    (∀ i : Fin 8, (t.slot k)[i] = par ((s.slot k)[i].extractLsb' 1 7)) ∧
    (∀ j : Fin 3, j ≠ k → t.slot j = s.slot j) ∧ t = { s with key := t.key } ∧
    generateSchedule (t.slot k) = generateSchedule (s.slot k) ∧
    exec (.parset (slotBits k)) t = .next t) ∧
  (∀ s : State, s.err = none → execute 0x00000033 s = .next { s with err := some .illegalCommand }) ∧
  (∀ n : BitVec 2, IgnoredInErrorMode (.parset n)) ∧
  (∀ s t : State, s.err = none → s.slot 0 = #v[0x12, 0x34, 0x56, 0x78, 0x90, 0xAB, 0xCD, 0xEF] →
    exec (.parset 0) s = .next t → regRead t 0x010 = 0x13345779 ∧ regRead t 0x014 = 0x91ABCDEF)

/-- spec/45_key_hygiene.md R184: `PARCHK s`. -/
def Obligations.ParchkReportsOddParityOfItsSlot : Prop :=
  (∀ k : Fin 3, decode (BitVec.ofNat 32 (0x34 + k.val)) = some (.parchk (slotBits k))) ∧
  (∀ (s : State) (k : Fin 3), s.err = none →
    exec (.parchk (slotBits k)) s = .next { s with flag := checkOddParity (s.slot k) }) ∧
  (∀ s : State, s.err = none → execute 0x00000037 s = .next { s with err := some .illegalCommand }) ∧
  (∀ n : BitVec 2, IgnoredInErrorMode (.parchk n)) ∧
  (∀ (i : Instr) (s t : State), isPredicate i = false → i ≠ .clr → exec i s = .next t → t.flag = s.flag) ∧
  (∀ k : Fin 3, exec (.parchk (slotBits k)) State.reset = .next State.reset) ∧
  (∀ s : State, s.err = none → s.slot 0 = exampleKey1 → exec (.parchk 0) s = .next { s with flag := true }) ∧
  (∀ s : State, s.err = none → s.slot 0 = #v[0x12, 0x34, 0x56, 0x78, 0x90, 0xAB, 0xCD, 0xEF] →
    exec (.parchk 0) s = .next { s with flag := false })

/-- spec/45_key_hygiene.md R185: `WEAKCHK s`. -/
def Obligations.WeakchkReportsWeakKeyInItsSlot : Prop :=
  (∀ k : Fin 3, decode (BitVec.ofNat 32 (0x38 + k.val)) = some (.weakchk (slotBits k))) ∧
  (∀ (s : State) (k : Fin 3), s.err = none →
    exec (.weakchk (slotBits k)) s = .next { s with flag := checkWeak (s.slot k) }) ∧
  (∀ s : State, s.err = none → execute 0x0000003B s = .next { s with err := some .illegalCommand }) ∧
  (∀ n : BitVec 2, IgnoredInErrorMode (.weakchk n)) ∧
  (∀ (i : Instr) (v : Bool) (s t u : State), exec i s = .next t → exec i { s with flag := v } = .next u →
    { u with flag := t.flag } = t) ∧
  (∀ k : Fin 3, exec (.weakchk (slotBits k)) State.reset = .next State.reset) ∧
  (∀ s : State, s.err = none → s.slot 1 = #v[0xFE, 0xE0, 0xFE, 0xE0, 0xFE, 0xF1, 0xFE, 0xF1] →
    exec (.weakchk 1) s = .next { s with flag := true }) ∧
  (∀ s : State, s.err = none → s.slot 0 = exampleKey1 → exec (.weakchk 0) s = .next { s with flag := false })

/-- spec/46_context_control.md R190: `CLR` completes in every state, error mode included, with the block at its reset
state; on the reset state it changes nothing, and after it the block commands raise `InvalidLength`. -/
def Obligations.ClrGivesTheResetState : Prop :=
  decode 0x00000001 = some .clr ∧
  (∀ s : State, exec .clr s = .next {
    key := zeros 24, sk := zeros 96, sklen := .empty, dir := .enc, scr := zeros 96, din := zeros 8, dout := zeros 8,
    flag := false, err := none, pending := s.pending, reads := s.reads }) ∧
  exec .clr State.reset = .next State.reset ∧
  (∀ s t : State, exec .clr s = .next t →
    t.status = 0 ∧ (∀ off : Nat, regRead t off = 0) ∧
    exec .crypt1 t = .next { t with err := some .invalidLength } ∧
    exec .crypt3 t = .next { t with err := some .invalidLength })

/-! ### Frames -/

/-- spec/30_encoding.md R83: a command changes only the state its rule names.
The rule is the spec's own inference ([derived]). -/
def Obligations.CommandsChangeOnlyTheirState : Prop :=
  ∀ (i : Instr) (s t : State), exec i s = .next t → i ≠ .clr →
    t.din = s.din ∧ t.pending = s.pending ∧ t.reads = s.reads ∧
    (t.err = s.err ∨ (s.err = none ∧ ∃ e, t = { s with err := some e })) ∧
    (isPredicate i = false → t.flag = s.flag) ∧
    (isBlock i = false → t.dout = s.dout) ∧
    (isKeySchedule i = false → t.sk = s.sk ∧ t.sklen = s.sklen ∧ t.dir = s.dir ∧ t.scr = s.scr) ∧
    ((∀ n, i ≠ .parset n) → t.key = s.key)

/-- spec/10_state.md section 9 (R39): what each group of commands leaves unchanged, register by register of the window. -/
def Obligations.CommandsLeaveOtherRegistersUnchanged : Prop :=
  (∀ (i : Instr) (s t : State) (off : Nat), isKeySchedule i = true → exec i s = .next t →
    off ≠ 0x004 → ¬ (0x200 ≤ off ∧ off ≤ 0x37C) → ¬ (0x400 ≤ off ∧ off ≤ 0x57C) → regRead t off = regRead s off) ∧
  (∀ (i : Instr) (s t : State) (off : Nat), isBlock i = true → exec i s = .next t →
    off ≠ 0x004 → ¬ (0x038 ≤ off ∧ off ≤ 0x03C) → regRead t off = regRead s off) ∧
  (∀ (i : Instr) (s t : State) (off : Nat), isPredicate i = true → i.wellFormed = true → exec i s = .next t →
    (off ≠ 0x004 → regRead t off = regRead s off) ∧ regRead t 0x004 &&& 0xFFFFFFFE = regRead s 0x004 &&& 0xFFFFFFFE) ∧
  (∀ (k : Fin 3) (s t : State) (off : Nat), exec (.parset (slotBits k)) s = .next t →
    ¬ (0x010 + 8 * k.val ≤ off ∧ off < 0x018 + 8 * k.val) → regRead t off = regRead s off)

/-- spec/10_state.md R24, R25, R30, R31 and section 9: the schedule memory and the fields that describe it change only in a
step that writes a key-schedule command or `CLR` to `CMD`, or that is a reset; `DOUT` only by a successful block command,
`CLR` or a reset; `FLAG` only by a predicate command, `CLR` or a reset. -/
def Obligations.StepChangesBuffersOnlyByTheirCommands : Prop :=
  ∀ (s t : State), step s = .next t →
    ((t.sk ≠ s.sk ∨ t.sklen ≠ s.sklen ∨ t.dir ≠ s.dir) → ∃ rest, s.pending = .reset :: rest ∨
      ∃ w i, s.pending = .write 0x000 (.u32 w) :: rest ∧ decode w = some i ∧
        (i = .clr ∨ (isKeySchedule i = true ∧ s.err = none))) ∧
    (t.dout ≠ s.dout → ∃ rest, s.pending = .reset :: rest ∨
      ∃ w i, s.pending = .write 0x000 (.u32 w) :: rest ∧ decode w = some i ∧
        (i = .clr ∨ (schedNeeded i = some s.sklen ∧ s.err = none))) ∧
    (t.flag ≠ s.flag → ∃ rest, s.pending = .reset :: rest ∨
      ∃ w i, s.pending = .write 0x000 (.u32 w) :: rest ∧ decode w = some i ∧
        (i = .clr ∨ (isPredicate i = true ∧ s.err = none)))

/-! ### What a command depends on -/

/-- spec/10_state.md section 9 (R39), spec/70_reset_and_hazards.md R226: the block a block command puts out depends on the
schedule and the input block alone: not on the key, the direction, the flag or an older output. -/
def Obligations.BlockResultDependsOnScheduleAndInputOnly : Prop :=
  ∀ (i : Instr) (s s' t t' : State), s.err = none → s'.err = none → s.sk = s'.sk → s.sklen = s'.sklen →
    s.din = s'.din → schedNeeded i = some s.sklen → exec i s = .next t → exec i s' = .next t' → t.dout = t'.dout

/-- spec/41_key_schedule.md R121 item 1, spec/10_state.md section 9 (R39): the schedule a command builds depends on the key
bits of the slots it reads alone: not on parity bits, on the other slots or on the schedule held before. -/
def Obligations.ScheduleDependsOnKeyBitsOnly : Prop :=
  (∀ (i : Instr) (s s' t t' : State), i = .ks1E ∨ i = .ks1D → s.err = none → s'.err = none →
    sameKeyBits (s.slot 0) (s'.slot 0) → exec i s = .next t → exec i s' = .next t' → t.sk = t'.sk) ∧
  (∀ (i : Instr) (s s' t t' : State), i = .ks2E ∨ i = .ks2D → s.err = none → s'.err = none →
    sameKeyBits (s.slot 0) (s'.slot 0) → sameKeyBits (s.slot 1) (s'.slot 1) →
    exec i s = .next t → exec i s' = .next t' → t.sk = t'.sk) ∧
  (∀ (i : Instr) (s s' t t' : State), i = .ks3E ∨ i = .ks3D → s.err = none → s'.err = none →
    sameKeyBits (s.slot 0) (s'.slot 0) → sameKeyBits (s.slot 1) (s'.slot 1) → sameKeyBits (s.slot 2) (s'.slot 2) →
    exec i s = .next t → exec i s' = .next t' → t.sk = t'.sk)

/-- spec/70_reset_and_hazards.md R224: new key bytes, written by the host or by `PARSET`, do not change the schedule; a
block command after them gives the result for the old key, and no error. -/
def Obligations.NewKeyBytesDoNotReachTheSchedule : Prop :=
  (∀ (off : Nat) (v : Word) (s t : State), 0x010 ≤ off → off ≤ 0x024 → regWrite off v s = .next t →
    t.sk = s.sk ∧ t.sklen = s.sklen ∧
    ∀ (i : Instr) (u u' : State), s.err = none → schedNeeded i = some s.sklen → exec i s = .next u →
      exec i t = .next u' → u'.dout = u.dout ∧ u'.err = none) ∧
  (∀ (n : BitVec 2) (s t : State), slotWellFormed n = true → exec (.parset n) s = .next t →
    t.sk = s.sk ∧ t.sklen = s.sklen ∧
    ∀ (i : Instr) (u u' : State), s.err = none → schedNeeded i = some s.sklen → exec i s = .next u →
      exec i t = .next u' → u'.dout = u.dout ∧ u'.err = none)

/-! ### The register window -/

/-- spec/20_memory.md R52: the two host primitives, for every offset of the window, by bus address. `KEY`, `DIN`, `DOUT`
are read and written as big-endian words; `CMD` executes; everything else reads zero and ignores writes. -/
def Obligations.HostPrimitivesFollowTheRegisterMap : Prop :=
  (∀ (s : State) (off : Nat), off ≤ 0x7FC → off % 4 = 0 →
    step (s.withNext (memRead (Config.base + off) .w32)) = .next { s with reads := s.reads ++ [regRead s off] }) ∧
  (∀ (s : State) (off : Nat) (v : Word), off ≤ 0x7FC → off % 4 = 0 →
    step (s.withNext (memWrite (Config.base + off) (.u32 v))) = regWrite off v s) ∧
  (∀ s : State, regRead s 0x004 = s.status) ∧
  (∀ (s : State) (j : Fin 6), regRead s (0x010 + 4 * j.val) =
    be32 (s.key[4 * j.val]'(by omega)) (s.key[4 * j.val + 1]'(by omega)) (s.key[4 * j.val + 2]'(by omega))
      (s.key[4 * j.val + 3]'(by omega))) ∧
  (∀ (s : State) (j : Fin 2), regRead s (0x030 + 4 * j.val) =
    be32 (s.din[4 * j.val]'(by omega)) (s.din[4 * j.val + 1]'(by omega)) (s.din[4 * j.val + 2]'(by omega))
      (s.din[4 * j.val + 3]'(by omega))) ∧
  (∀ (s : State) (j : Fin 2), regRead s (0x038 + 4 * j.val) =
    be32 (s.dout[4 * j.val]'(by omega)) (s.dout[4 * j.val + 1]'(by omega)) (s.dout[4 * j.val + 2]'(by omega))
      (s.dout[4 * j.val + 3]'(by omega))) ∧
  (∀ (s : State) (i : Fin 96), regRead s (0x200 + 4 * i.val) = s.sk[i]) ∧
  (∀ (s : State) (i : Fin 96), regRead s (0x400 + 4 * i.val) = s.scr[i]) ∧
  (∀ (s : State) (off : Nat), off ≤ 0x7FC → off % 4 = 0 → off ≠ 0x004 → ¬ (0x010 ≤ off ∧ off ≤ 0x024) →
    ¬ (0x030 ≤ off ∧ off ≤ 0x03C) → ¬ (0x200 ≤ off ∧ off ≤ 0x37C) → ¬ (0x400 ≤ off ∧ off ≤ 0x57C) →
    regRead s off = 0) ∧
  (∀ (s : State) (v : Word), regWrite 0x000 v s = execute v s) ∧
  (∀ (s : State) (j : Fin 6) (v : Word), ∃ t, regWrite (0x010 + 4 * j.val) v s = .next t ∧ t = { s with key := t.key } ∧
    ∀ i : Fin 24, t.key[i] = if i.val / 4 = j.val then (unbe32 v)[i.val % 4]'(by omega) else s.key[i]) ∧
  (∀ (s : State) (j : Fin 2) (v : Word), ∃ t, regWrite (0x030 + 4 * j.val) v s = .next t ∧ t = { s with din := t.din } ∧
    ∀ i : Fin 8, t.din[i] = if i.val / 4 = j.val then (unbe32 v)[i.val % 4]'(by omega) else s.din[i]) ∧
  (∀ (s : State) (off : Nat) (v : Word), off ≤ 0x7FC → off % 4 = 0 → off ≠ 0x000 → bufferOffset off = false →
    regWrite off v s = .next s)

/-- spec/20_memory.md R54: a step refuses exactly a host access that is not an aligned 32-bit access inside the window. -/
def Obligations.UndefinedAccessesAreRefused : Prop :=
  (∀ (s : State) (r : Refusal), step s = .refused r → r = .undefinedAccess) ∧
  (∀ (s : State) (off : Int) (w : Width) (rest : List HostEvent), s.pending = .read off w :: rest →
    (step s = .refused .undefinedAccess ↔ ¬ (w = .w32 ∧ 0 ≤ off ∧ off ≤ 0x7FC ∧ off % 4 = 0))) ∧
  (∀ (s : State) (off : Int) (d : BusData) (rest : List HostEvent), s.pending = .write off d :: rest →
    (step s = .refused .undefinedAccess ↔ ¬ ((∃ v, d = .u32 v) ∧ 0 ≤ off ∧ off ≤ 0x7FC ∧ off % 4 = 0)))

/-- spec/20_memory.md R56: reads change nothing of the block, writes of `KEY` and `DIN` are idempotent and read back, and a
write to a read-only or reserved offset and a read of `CMD` or of a reserved offset are harmless. -/
def Obligations.OnlyCommandWritesHaveSideEffects : Prop :=
  (∀ (s t : State) (off : Int) (w : Width) (rest : List HostEvent), s.pending = .read off w :: rest → step s = .next t →
    SameBlock s t) ∧
  (∀ (s : State) (off : Nat) (v : Word), inWindow off = true → bufferOffset off = true →
    ∃ t, regWrite off v s = .next t ∧ regRead t off = v ∧ regWrite off v t = .next t ∧
      (∀ off' : Nat, inWindow off' = true → off' ≠ off → regRead t off' = regRead s off')) ∧
  (∀ (s : State) (off : Nat) (v : Word), off ≠ 0x000 → bufferOffset off = false → regWrite off v s = .next s) ∧
  (∀ s : State, regRead s 0x000 = 0) ∧
  (∀ (s : State) (off : Nat), regAt off = .reserved → regRead s off = 0) ∧
  (∀ (s : State) (w : Word) (rest : List HostEvent), s.pending = .write 0x000 (.u32 w) :: rest →
    step s = execute w { s with pending := rest })

/-- spec/10_state.md R33: the fields of `STATUS`, its reserved bits, and that a write of it is ignored. -/
def Obligations.StatusShowsItsFields : Prop :=
  ∀ s : State,
    s.status.getLsbD 0 = s.flag ∧ s.status.extractLsb' 1 2 = s.sklen.code ∧
    s.status.extractLsb' 3 1 = s.dir.code ∧ s.status.extractLsb' 4 4 = errCode s.err ∧
    s.status.extractLsb' 8 24 = 0 ∧ regRead s 0x004 = s.status ∧
    (∀ v : Word, regWrite 0x004 v s = .next s) ∧ State.reset.status = 0

/-- spec/00_scope.md R12: the big-endian packing, its inverse, and the FIPS bits of an 8-byte sequence.
The clause on FIPS bits is the spec's own inference ([derived]). -/
def Obligations.BytesPackMostSignificantFirst : Prop :=
  (∀ b0 b1 b2 b3 : Byte, be32 b0 b1 b2 b3 =
    (b0.setWidth 32 <<< 24) ||| (b1.setWidth 32 <<< 16) ||| (b2.setWidth 32 <<< 8) ||| b3.setWidth 32) ∧
  (∀ b0 b1 b2 b3 : Byte, unbe32 (be32 b0 b1 b2 b3) = #v[b0, b1, b2, b3]) ∧
  (∀ w : Word, be32 (unbe32 w)[0] (unbe32 w)[1] (unbe32 w)[2] (unbe32 w)[3] = w) ∧
  (∀ b : Block, toU64 b = ((be32 b[0] b[1] b[2] b[3]).setWidth 64 <<< 32) |||
    (be32 b[4] b[5] b[6] b[7]).setWidth 64) ∧
  (∀ (b : Block) (k j : Fin 8), fbit (toU64 b) (8 * k.val + j.val + 1) = b[k].getLsbD (7 - j.val))

/-! ### Reset and invariants -/

/-- spec/10_state.md R38: after reset every state element is zero, and `STATUS` reads zero.
The zeros are the decision D11 of the spec, not a choice of this model. -/
def Obligations.ResetStateIsAllZero : Prop :=
  State.reset.sklen.code = 0 ∧ State.reset.dir.code = 0 ∧
  (∀ i : Fin 96, State.reset.sk[i] = 0) ∧ (∀ i : Fin 96, State.reset.scr[i] = 0) ∧
  (∀ i : Fin 24, State.reset.key[i] = 0) ∧ (∀ i : Fin 8, State.reset.din[i] = 0) ∧
  (∀ i : Fin 8, State.reset.dout[i] = 0) ∧ State.reset.flag = false ∧ State.reset.err = none ∧
  regRead State.reset 0x004 = 0x00000000

/-- spec/70_reset_and_hazards.md R220: a reset gives every element its reset value, whatever the state, error mode
included, and has the effect of `CLR`. -/
def Obligations.ResetEventClearsTheBlock : Prop :=
  ∀ (s : State) (rest : List HostEvent), s.pending = .reset :: rest →
    (∃ t, step s = .next t ∧ SameBlock State.reset t ∧ t.err = none ∧ t.sklen = .empty ∧ t.status = 0) ∧
    step s = exec .clr { s with pending := rest }

/-- spec/10_state.md section 7 (R37): the invariants hold at reset. -/
def Obligations.InvariantHoldsAtReset : Prop := State.Inv State.reset

/-- spec/10_state.md section 7 (R37): every step keeps the invariants: the scratch is zero, an empty context is all zero, a
one-key context is zero above word 31, the fixed bits of every schedule word are zero, and the schedule is that of some
key in the direction `DIR`. -/
def Obligations.EveryStepKeepsTheInvariant : Prop :=
  ∀ (s t : State), State.Inv s → step s = .next t → State.Inv t

/-! ### Key schedule -/

/-- spec/41_key_schedule.md R114: PC1 in word form gives the published `C0` and `D0`, and no parity bit is named. -/
def Obligations.Pc1IsThePublishedPermutedChoice1 : Prop :=
  (∀ x y : Word, pc1 ⟨x, y⟩ = fipsPC1 (x ++ y)) ∧ (∀ i : Fin 56, tablePC1[i] % 8 ≠ 0)

/-- spec/41_key_schedule.md R115: the registers rotate by one in rounds 0, 1, 8 and 15 and by two in the others, the
rotations accumulate, and after the last round both registers are back.
The last clause is the spec's own inference ([derived]). -/
def Obligations.RotationsAccumulateToTheWholeWidth : Prop :=
  (∀ i : Fin 16, shiftCount i.val = if i = 0 ∨ i = 1 ∨ i = 8 ∨ i = 15 then 1 else 2) ∧
  (∀ (r : KeyRegs) (i : Nat), regsAfter r (i + 1) =
    ⟨rol28 (regsAfter r i).c (shiftCount i), rol28 (regsAfter r i).d (shiftCount i)⟩) ∧
  (∀ r : KeyRegs, regsAfter r 16 = r)

/-- spec/41_key_schedule.md R117: PC2 in word form is the published round key packed into two words, whose fixed bits are
zero. -/
def Obligations.Pc2IsThePublishedRoundKeyPacked : Prop :=
  ∀ r : KeyRegs, pc2 r = packRoundKey (fipsPC2 r) ∧
    (pc2 r).even &&& 0xC0C0C0C0 = 0 ∧ (pc2 r).odd &&& 0xC0C0C0C0 = 0

/-- spec/41_key_schedule.md R118: word pair `i` of the schedule is the published round key `K(i+1)`. -/
def Obligations.GeneratedScheduleHoldsThePublishedRoundKeys : Prop :=
  ∀ key : Key, generateSchedule key = packSchedule (fipsRoundKeys key)

/-- spec/41_key_schedule.md R119, R120: pair `i` and pair `15-i` are exchanged, and reversing twice changes nothing.
R120 is the spec's own inference ([derived]). -/
def Obligations.ReversingPairsIsAnInvolution : Prop :=
  (∀ (s : Schedule) (i : Fin 16),
    (reversePairs s)[2 * i.val]'(by omega) = s[30 - 2 * i.val]'(by omega) ∧
    (reversePairs s)[2 * i.val + 1]'(by omega) = s[31 - 2 * i.val]'(by omega)) ∧
  (∀ s : Schedule, reversePairs (reversePairs s) = s)

/-- spec/41_key_schedule.md R121: parity bits are ignored, the fixed bits are zero, the two degenerate keys, the
complement, and the weak and semi-weak keys. The rule is the spec's own inference ([derived]). -/
def Obligations.ScheduleConsequencesHold : Prop :=
  (∀ a b : Key, sameKeyBits a b → generateSchedule a = generateSchedule b) ∧
  (∀ a : Key, generateSchedule (setOddParity a) = generateSchedule a) ∧
  generateSchedule (zeros 8) = generateSchedule (Vector.replicate 8 0x01) ∧
  (∀ (a : Key) (i : Fin 32), (generateSchedule a)[i] &&& 0xC0C0C0C0 = 0) ∧
  (∀ a : Key, (∀ i : Fin 8, a[i] = 0x00 ∨ a[i] = 0x01) → ∀ i : Fin 32, (generateSchedule a)[i] = 0) ∧
  (∀ a : Key, (∀ i : Fin 8, a[i] = 0xFE ∨ a[i] = 0xFF) → ∀ i : Fin 32, (generateSchedule a)[i] = 0x3F3F3F3F) ∧
  (∀ (a : Key) (i : Fin 32), (generateSchedule (Vector.ofFn fun j : Fin 8 => ~~~ a[j]))[i] =
    (generateSchedule a)[i] ^^^ 0x3F3F3F3F) ∧
  (∀ j : Fin 4, ∀ w, weakKeys[j.val]? = some w → reversePairs (generateSchedule w) = generateSchedule w ∧
    ∀ i : Fin 16, (generateSchedule w)[2 * i.val]'(by omega) = (generateSchedule w)[0] ∧
      (generateSchedule w)[2 * i.val + 1]'(by omega) = (generateSchedule w)[1]) ∧
  (∀ m : Fin 6, ∀ v w, weakKeys[2 * m.val + 4]? = some v → weakKeys[2 * m.val + 5]? = some w →
    generateSchedule w = reversePairs (generateSchedule v))

/-- spec/42_cascade_key_composer.md R131, R139: the three segments of the four compositions; the mirror property, two keys as
three, and the degeneracy with equal keys. R139 is the spec's own inference ([derived]). -/
def Obligations.CascadesAreComposedAsStated : Prop :=
  (∀ k1 k2 k3 : Key,
      (segment (compose2Enc k1 k2) 0 = generateSchedule k1 ∧
       segment (compose2Enc k1 k2) 1 = reversePairs (generateSchedule k2) ∧
       segment (compose2Enc k1 k2) 2 = generateSchedule k1) ∧
      (segment (compose2Dec k1 k2) 0 = reversePairs (generateSchedule k1) ∧
       segment (compose2Dec k1 k2) 1 = generateSchedule k2 ∧
       segment (compose2Dec k1 k2) 2 = reversePairs (generateSchedule k1)) ∧
      (segment (compose3Enc k1 k2 k3) 0 = generateSchedule k1 ∧
       segment (compose3Enc k1 k2 k3) 1 = reversePairs (generateSchedule k2) ∧
       segment (compose3Enc k1 k2 k3) 2 = generateSchedule k3) ∧
      (segment (compose3Dec k1 k2 k3) 0 = reversePairs (generateSchedule k3) ∧
       segment (compose3Dec k1 k2 k3) 1 = generateSchedule k2 ∧
       segment (compose3Dec k1 k2 k3) 2 = reversePairs (generateSchedule k1))) ∧
  (∀ (k1 k2 k3 : Key) (p : Fin 48),
    (compose3Dec k1 k2 k3)[2 * p.val]'(by omega) = (compose3Enc k1 k2 k3)[94 - 2 * p.val]'(by omega) ∧
    (compose3Dec k1 k2 k3)[2 * p.val + 1]'(by omega) = (compose3Enc k1 k2 k3)[95 - 2 * p.val]'(by omega) ∧
    (compose2Dec k1 k2)[2 * p.val]'(by omega) = (compose2Enc k1 k2)[94 - 2 * p.val]'(by omega) ∧
    (compose2Dec k1 k2)[2 * p.val + 1]'(by omega) = (compose2Enc k1 k2)[95 - 2 * p.val]'(by omega)) ∧
  (∀ k1 k2 : Key, compose2Enc k1 k2 = compose3Enc k1 k2 k1 ∧ compose2Dec k1 k2 = compose3Dec k1 k2 k1) ∧
  (∀ (k : Key) (b : Block), processBlock3 (compose3Enc k k k) b = processBlock (generateSchedule k) b)

/-! ### Permutations, rounds, passes -/

/-- spec/43_initial_final_permutation.md R147, R149: in word form `ip` is the published `IP` with both halves rotated by one,
and `fp` is the published final permutation, whose table is the inverse of `IP`. -/
def Obligations.IpAndFpAreThePublishedPermutations : Prop :=
  (∀ h : Halves, ip h = ipFips h) ∧ ip ⟨0x01234567, 0x89ABCDEF⟩ = ⟨0x980199FF, 0xE155E155⟩ ∧
  (∀ h : Halves, fp h = fpFips h) ∧ (∀ j : Fin 64, tableFP[tableIP[j] - 1]? = some (j.val + 1))

/-- spec/43_initial_final_permutation.md R150: `ip` and `fp` undo each other, with the rows of the rule's table.
The rule is the spec's own inference ([derived]). -/
def Obligations.IpAndFpUndoEachOther : Prop :=
  (∀ h : Halves, fp (ip h) = h ∧ ip (fp h) = h) ∧
  (ip ⟨0, 0⟩ = ⟨0, 0⟩ ∧ fp ⟨0, 0⟩ = ⟨0, 0⟩) ∧
  (ip ⟨0xFFFFFFFF, 0xFFFFFFFF⟩ = ⟨0xFFFFFFFF, 0xFFFFFFFF⟩ ∧ fp ⟨0xFFFFFFFF, 0xFFFFFFFF⟩ = ⟨0xFFFFFFFF, 0xFFFFFFFF⟩) ∧
  (ip ⟨0x80000000, 0⟩ = ⟨0, 0x02000000⟩ ∧ fp ⟨0x80000000, 0⟩ = ⟨0, 0x00004000⟩) ∧
  (ip ⟨0, 1⟩ = ⟨0x00000100, 0⟩ ∧ fp ⟨0, 1⟩ = ⟨0, 0x00000080⟩)

/-- spec/40_sbox_array.md R104: the masks of the eight tables are disjoint and cover the word, the XOR of one entry from each
table is their OR, and each table takes each of its 16 values four times.
The rule is the spec's own inference ([derived]). -/
def Obligations.SubstitutionTablesWriteDisjointBits : Prop :=
  (∀ (k : Fin 8) (i : BitVec 6), lookup6 (sbListed k) i &&& ~~~ sbMask k = 0) ∧
  (∀ j k : Fin 8, j ≠ k → sbMask j &&& sbMask k = 0) ∧
  (List.finRange 8).foldl (fun m k => m ||| sbMask k) 0 = 0xFFFFFFFF ∧
  (∀ i : Fin 8 → BitVec 6, (List.finRange 8).foldl (fun m k => m ^^^ lookup6 (sbListed k) (i k)) 0 =
    (List.finRange 8).foldl (fun m k => m ||| lookup6 (sbListed k) (i k)) 0) ∧
  (∀ k : Fin 8, (sbListed k).toList.dedup.length = 16 ∧
    ∀ v ∈ (sbListed k).toList, (sbListed k).toList.count v = 4)

/-- spec/44_feistel_engine.md R158: on a rotated half and a packed round key the round function is the published cipher
function, rotated. -/
def Obligations.RoundFunctionIsThePublishedCipherFunction : Prop :=
  ∀ (r : Word) (k : BitVec 48),
    roundF (rol32 r 1) (packRoundKey k).even (packRoundKey k).odd = rol32 (fipsF r k) 1

/-- spec/44_feistel_engine.md R160: after an even number of rounds the words hold the published halves rotated by one; after
an odd number they hold them exchanged. The rule is the spec's own inference ([derived]). -/
def Obligations.RoundsFollowThePublishedIteration : Prop :=
  ∀ (k : Vector (BitVec 48) 16) (h : Halves) (i : Nat), i ≤ 8 →
    let start : Halves := ⟨rol32 h.left 1, rol32 h.right 1⟩
    let g := ((List.finRange 8).take i).foldl (fun g j => doubleRound (packSchedule k) j g) start
    g = ⟨rol32 (fipsRounds k h (2 * i)).left 1, rol32 (fipsRounds k h (2 * i)).right 1⟩ ∧
    ∀ hi : i < 8,
      g.left ^^^ roundF g.right (packRoundKey (k[2 * i]'(by omega))).even (packRoundKey (k[2 * i]'(by omega))).odd =
        rol32 (fipsRounds k h (2 * i + 1)).right 1 ∧
      g.right = rol32 (fipsRounds k h (2 * i + 1)).left 1

/-- spec/44_feistel_engine.md R162: a pass is `ip`, the rounds and `fp` on the exchanged halves, big-endian at both ends; over
packed round keys it is the published DES computation with those keys. -/
def Obligations.PassIsThePublishedDesComputation : Prop :=
  (∀ (s : Schedule) (b : Block),
    let h := rounds s (ip ⟨be32 b[0] b[1] b[2] b[3], be32 b[4] b[5] b[6] b[7]⟩)
    let out := fp ⟨h.right, h.left⟩
    processBlock s b = unbe32 out.left ++ unbe32 out.right) ∧
  (∀ (k : Vector (BitVec 48) 16) (b : Block), toU64 (processBlock (packSchedule k) b) = fipsPass k (toU64 b))

/-- spec/44_feistel_engine.md R164: three passes on consecutive segments, equal to the fused form for every input.
The fused form's equality is the spec's own inference ([derived]). -/
def Obligations.ThreePassesEqualTheFusedForm : Prop :=
  ∀ (s : Cascade) (b : Block),
    processBlock3 s b = processBlock (segment s 2) (processBlock (segment s 1) (processBlock (segment s 0) b)) ∧
    processBlock3Fused s b = processBlock3 s b

/-- spec/44_feistel_engine.md R167: a pass is undone by the pass with the reversed schedule, for every 32 words and every
block; and in commands, building the decryption schedule and processing the output gives the input back, for one, two and
three keys. The rule is the spec's own inference ([derived]). -/
def Obligations.ReversedScheduleUndoesAPass : Prop :=
  (∀ (s : Schedule) (b : Block), processBlock (reversePairs s) (processBlock s b) = b) ∧
  (∀ (e d c : Instr), (e, d, c) ∈ [(.ks1E, .ks1D, .crypt1), (.ks2E, .ks2D, .crypt3), (.ks3E, .ks3D, .crypt3)] →
    ∀ s : State, s.err = none → ∃ t1 t2 t3 t4, exec e s = .next t1 ∧ exec c t1 = .next t2 ∧
      exec d { t2 with din := t2.dout } = .next t3 ∧ exec c t3 = .next t4 ∧ t4.dout = s.din)

/-- spec/00_scope.md R1, spec/44_feistel_engine.md R162: the single-DES commands compute the published DES encryption and
decryption of the input block under the key in slot 0. -/
def Obligations.SingleKeyCommandsComputePublishedDes : Prop :=
  ∀ s : State, s.err = none →
    (∃ t u, exec .ks1E s = .next t ∧ exec .crypt1 t = .next u ∧
      toU64 u.dout = desEncrypt (s.slot 0) (toU64 s.din)) ∧
    (∃ t u, exec .ks1D s = .next t ∧ exec .crypt1 t = .next u ∧
      toU64 u.dout = desDecrypt (s.slot 0) (toU64 s.din))

/-- spec/42_cascade_key_composer.md section 1 (R131), spec/44_feistel_engine.md R164: the cascade commands compute the
published triple-DES encryption and decryption under the keys in the slots. -/
def Obligations.CascadeCommandsComputePublishedTripleDes : Prop :=
  ∀ s : State, s.err = none →
    (∃ t u, exec .ks3E s = .next t ∧ exec .crypt3 t = .next u ∧
      toU64 u.dout = tdesEncrypt (s.slot 0) (s.slot 1) (s.slot 2) (toU64 s.din)) ∧
    (∃ t u, exec .ks3D s = .next t ∧ exec .crypt3 t = .next u ∧
      toU64 u.dout = tdesDecrypt (s.slot 0) (s.slot 1) (s.slot 2) (toU64 s.din)) ∧
    (∃ t u, exec .ks2E s = .next t ∧ exec .crypt3 t = .next u ∧
      toU64 u.dout = tdesEncrypt (s.slot 0) (s.slot 1) (s.slot 0) (toU64 s.din)) ∧
    (∃ t u, exec .ks2D s = .next t ∧ exec .crypt3 t = .next u ∧
      toU64 u.dout = tdesDecrypt (s.slot 0) (s.slot 1) (s.slot 0) (toU64 s.din))

/-! ### Key hygiene -/

/-- spec/45_key_hygiene.md R176, R178: every entry of the parity table keeps the seven key bits and has odd parity; forcing and
checking parity agree, forcing is idempotent, the schedule does not depend on it, and the two examples.
Both rules are the spec's own inference ([derived]). -/
def Obligations.ParityTableAndFunctionsAgree : Prop :=
  (∀ i : BitVec 7, (par i).extractLsb' 1 7 = i ∧ ones (par i) % 2 = 1) ∧
  (∀ i : Fin 128, parListing[i.val]? = some (par (BitVec.ofNat 7 i.val))) ∧
  (∀ k : Key, checkOddParity (setOddParity k) = true) ∧
  (∀ k : Key, checkOddParity k = true → setOddParity k = k) ∧
  (∀ k : Key, setOddParity (setOddParity k) = setOddParity k) ∧
  (∀ k : Key, generateSchedule (setOddParity k) = generateSchedule k) ∧
  setOddParity (zeros 8) = Vector.replicate 8 0x01 ∧
  setOddParity (Vector.replicate 8 0xFF) = Vector.replicate 8 0xFE

/-- spec/45_key_hygiene.md R180: the check is true exactly when each byte has an odd number of one bits.
This form of the rule is the spec's own inference ([derived]). -/
def Obligations.ParityCheckCountsOneBits : Prop :=
  ∀ k : Key, checkOddParity k = true ↔ ∀ i : Fin 8, ones k[i] % 2 = 1

/-- spec/45_key_hygiene.md R181, R182: exactly the 16 patterns are reported, and a key that differs from one only in parity
bits is not, although it has the same schedule. R182 is the spec's own inference ([derived]). -/
def Obligations.WeakCheckComparesWholeBytes : Prop :=
  weakKeys.length = 16 ∧ (∀ w ∈ weakKeys, checkWeak w = true) ∧
  (∀ k : Key, (∀ w ∈ weakKeys, ∃ i : Fin 8, k[i] ≠ w[i]) → checkWeak k = false) ∧
  (∀ k : Key, ∀ w ∈ weakKeys, sameKeyBits k w → k ≠ w →
    checkWeak k = false ∧ generateSchedule k = generateSchedule w) ∧
  checkWeak (zeros 8) = false ∧ checkWeak (Vector.replicate 8 0x01) = true ∧
  (∀ k : Key, ∀ w ∈ weakKeys, sameKeyBits k w → checkWeak (setOddParity k) = true)

/-! ### Pseudo-operations -/

/-- spec/30_encoding.md section 5 (R80): run from any state outside error mode, the pseudo-operations of the source's entry
points return to the host what the source's functions give: the processed block under each schedule, the key, the forced key, the
two predicates. -/
def Obligations.PseudoOperationsReturnTheirResults : Prop :=
  ∀ s : State, s.err = none →
    (∀ (k1 k2 k3 : Key) (b : Block),
      ReturnsBlock s (desSetkeyEnc k1 ++ desBlock b) (processBlock (generateSchedule k1) b) ∧
      ReturnsBlock s (desSetkeyDec k1 ++ desBlock b) (processBlock (reversePairs (generateSchedule k1)) b) ∧
      ReturnsBlock s (des3Set2keyEnc k1 k2 ++ des3Block b) (processBlock3 (compose2Enc k1 k2) b) ∧
      ReturnsBlock s (des3Set2keyDec k1 k2 ++ des3Block b) (processBlock3 (compose2Dec k1 k2) b) ∧
      ReturnsBlock s (des3Set3keyEnc k1 k2 k3 ++ des3Block b) (processBlock3 (compose3Enc k1 k2 k3) b) ∧
      ReturnsBlock s (des3Set3keyDec k1 k2 k3 ++ des3Block b) (processBlock3 (compose3Dec k1 k2 k3) b)) ∧
    (∀ (k : Fin 3) (key : Key),
      ReturnsBlock s (loadKey k key ++ readKey k) key ∧
      ReturnsBlock s (loadKey k key ++ setOddParityOp k) (setOddParity key) ∧
      ReturnsFlag s (loadKey k key ++ checkOddParityOp k) (checkOddParity key) ∧
      ReturnsFlag s (loadKey k key ++ checkWeakOp k) (checkWeak key))
end

