-- ==== Sys2Proof/Laws/State.lean ====
section
/-! SUPPORT. One lemma per field per update of the state, so that no proof unfolds a record update. -/

namespace Sys2Proof.Machine

@[simp] theorem State.raise_key (e : CmdError) (s : State) :
    (s.raise e).key = s.key := rfl
@[simp] theorem State.raise_sk (e : CmdError) (s : State) :
    (s.raise e).sk = s.sk := rfl
@[simp] theorem State.raise_sklen (e : CmdError) (s : State) :
    (s.raise e).sklen = s.sklen := rfl
@[simp] theorem State.raise_dir (e : CmdError) (s : State) :
    (s.raise e).dir = s.dir := rfl
@[simp] theorem State.raise_scr (e : CmdError) (s : State) :
    (s.raise e).scr = s.scr := rfl
@[simp] theorem State.raise_din (e : CmdError) (s : State) :
    (s.raise e).din = s.din := rfl
@[simp] theorem State.raise_dout (e : CmdError) (s : State) :
    (s.raise e).dout = s.dout := rfl
@[simp] theorem State.raise_flag (e : CmdError) (s : State) :
    (s.raise e).flag = s.flag := rfl
@[simp] theorem State.raise_err (e : CmdError) (s : State) :
    (s.raise e).err = some e := rfl
@[simp] theorem State.raise_pending (e : CmdError) (s : State) :
    (s.raise e).pending = s.pending := rfl
@[simp] theorem State.raise_reads (e : CmdError) (s : State) :
    (s.raise e).reads = s.reads := rfl

@[simp] theorem State.clear_key (s : State) :
    (s.clear).key = zeros 24 := rfl
@[simp] theorem State.clear_sk (s : State) :
    (s.clear).sk = zeros 96 := rfl
@[simp] theorem State.clear_sklen (s : State) :
    (s.clear).sklen = .empty := rfl
@[simp] theorem State.clear_dir (s : State) :
    (s.clear).dir = .enc := rfl
@[simp] theorem State.clear_scr (s : State) :
    (s.clear).scr = zeros 96 := rfl
@[simp] theorem State.clear_din (s : State) :
    (s.clear).din = zeros 8 := rfl
@[simp] theorem State.clear_dout (s : State) :
    (s.clear).dout = zeros 8 := rfl
@[simp] theorem State.clear_flag (s : State) :
    (s.clear).flag = false := rfl
@[simp] theorem State.clear_err (s : State) :
    (s.clear).err = none := rfl
@[simp] theorem State.clear_pending (s : State) :
    (s.clear).pending = s.pending := rfl
@[simp] theorem State.clear_reads (s : State) :
    (s.clear).reads = s.reads := rfl

@[simp] theorem State.setContext_key (k : Cascade) (l : SchedLen) (d : Dir) (s : State) :
    (s.setContext k l d).key = s.key := rfl
@[simp] theorem State.setContext_sk (k : Cascade) (l : SchedLen) (d : Dir) (s : State) :
    (s.setContext k l d).sk = k := rfl
@[simp] theorem State.setContext_sklen (k : Cascade) (l : SchedLen) (d : Dir) (s : State) :
    (s.setContext k l d).sklen = l := rfl
@[simp] theorem State.setContext_dir (k : Cascade) (l : SchedLen) (d : Dir) (s : State) :
    (s.setContext k l d).dir = d := rfl
@[simp] theorem State.setContext_scr (k : Cascade) (l : SchedLen) (d : Dir) (s : State) :
    (s.setContext k l d).scr = zeros 96 := rfl
@[simp] theorem State.setContext_din (k : Cascade) (l : SchedLen) (d : Dir) (s : State) :
    (s.setContext k l d).din = s.din := rfl
@[simp] theorem State.setContext_dout (k : Cascade) (l : SchedLen) (d : Dir) (s : State) :
    (s.setContext k l d).dout = s.dout := rfl
@[simp] theorem State.setContext_flag (k : Cascade) (l : SchedLen) (d : Dir) (s : State) :
    (s.setContext k l d).flag = s.flag := rfl
@[simp] theorem State.setContext_err (k : Cascade) (l : SchedLen) (d : Dir) (s : State) :
    (s.setContext k l d).err = s.err := rfl
@[simp] theorem State.setContext_pending (k : Cascade) (l : SchedLen) (d : Dir) (s : State) :
    (s.setContext k l d).pending = s.pending := rfl
@[simp] theorem State.setContext_reads (k : Cascade) (l : SchedLen) (d : Dir) (s : State) :
    (s.setContext k l d).reads = s.reads := rfl

@[simp] theorem State.setKey_key (k : Vector Byte 24) (s : State) :
    (s.setKey k).key = k := rfl
@[simp] theorem State.setKey_sk (k : Vector Byte 24) (s : State) :
    (s.setKey k).sk = s.sk := rfl
@[simp] theorem State.setKey_sklen (k : Vector Byte 24) (s : State) :
    (s.setKey k).sklen = s.sklen := rfl
@[simp] theorem State.setKey_dir (k : Vector Byte 24) (s : State) :
    (s.setKey k).dir = s.dir := rfl
@[simp] theorem State.setKey_scr (k : Vector Byte 24) (s : State) :
    (s.setKey k).scr = s.scr := rfl
@[simp] theorem State.setKey_din (k : Vector Byte 24) (s : State) :
    (s.setKey k).din = s.din := rfl
@[simp] theorem State.setKey_dout (k : Vector Byte 24) (s : State) :
    (s.setKey k).dout = s.dout := rfl
@[simp] theorem State.setKey_flag (k : Vector Byte 24) (s : State) :
    (s.setKey k).flag = s.flag := rfl
@[simp] theorem State.setKey_err (k : Vector Byte 24) (s : State) :
    (s.setKey k).err = s.err := rfl
@[simp] theorem State.setKey_pending (k : Vector Byte 24) (s : State) :
    (s.setKey k).pending = s.pending := rfl
@[simp] theorem State.setKey_reads (k : Vector Byte 24) (s : State) :
    (s.setKey k).reads = s.reads := rfl

@[simp] theorem State.setDin_key (b : Block) (s : State) :
    (s.setDin b).key = s.key := rfl
@[simp] theorem State.setDin_sk (b : Block) (s : State) :
    (s.setDin b).sk = s.sk := rfl
@[simp] theorem State.setDin_sklen (b : Block) (s : State) :
    (s.setDin b).sklen = s.sklen := rfl
@[simp] theorem State.setDin_dir (b : Block) (s : State) :
    (s.setDin b).dir = s.dir := rfl
@[simp] theorem State.setDin_scr (b : Block) (s : State) :
    (s.setDin b).scr = s.scr := rfl
@[simp] theorem State.setDin_din (b : Block) (s : State) :
    (s.setDin b).din = b := rfl
@[simp] theorem State.setDin_dout (b : Block) (s : State) :
    (s.setDin b).dout = s.dout := rfl
@[simp] theorem State.setDin_flag (b : Block) (s : State) :
    (s.setDin b).flag = s.flag := rfl
@[simp] theorem State.setDin_err (b : Block) (s : State) :
    (s.setDin b).err = s.err := rfl
@[simp] theorem State.setDin_pending (b : Block) (s : State) :
    (s.setDin b).pending = s.pending := rfl
@[simp] theorem State.setDin_reads (b : Block) (s : State) :
    (s.setDin b).reads = s.reads := rfl

@[simp] theorem State.setDout_key (b : Block) (s : State) :
    (s.setDout b).key = s.key := rfl
@[simp] theorem State.setDout_sk (b : Block) (s : State) :
    (s.setDout b).sk = s.sk := rfl
@[simp] theorem State.setDout_sklen (b : Block) (s : State) :
    (s.setDout b).sklen = s.sklen := rfl
@[simp] theorem State.setDout_dir (b : Block) (s : State) :
    (s.setDout b).dir = s.dir := rfl
@[simp] theorem State.setDout_scr (b : Block) (s : State) :
    (s.setDout b).scr = s.scr := rfl
@[simp] theorem State.setDout_din (b : Block) (s : State) :
    (s.setDout b).din = s.din := rfl
@[simp] theorem State.setDout_dout (b : Block) (s : State) :
    (s.setDout b).dout = b := rfl
@[simp] theorem State.setDout_flag (b : Block) (s : State) :
    (s.setDout b).flag = s.flag := rfl
@[simp] theorem State.setDout_err (b : Block) (s : State) :
    (s.setDout b).err = s.err := rfl
@[simp] theorem State.setDout_pending (b : Block) (s : State) :
    (s.setDout b).pending = s.pending := rfl
@[simp] theorem State.setDout_reads (b : Block) (s : State) :
    (s.setDout b).reads = s.reads := rfl

@[simp] theorem State.setFlag_key (b : Bool) (s : State) :
    (s.setFlag b).key = s.key := rfl
@[simp] theorem State.setFlag_sk (b : Bool) (s : State) :
    (s.setFlag b).sk = s.sk := rfl
@[simp] theorem State.setFlag_sklen (b : Bool) (s : State) :
    (s.setFlag b).sklen = s.sklen := rfl
@[simp] theorem State.setFlag_dir (b : Bool) (s : State) :
    (s.setFlag b).dir = s.dir := rfl
@[simp] theorem State.setFlag_scr (b : Bool) (s : State) :
    (s.setFlag b).scr = s.scr := rfl
@[simp] theorem State.setFlag_din (b : Bool) (s : State) :
    (s.setFlag b).din = s.din := rfl
@[simp] theorem State.setFlag_dout (b : Bool) (s : State) :
    (s.setFlag b).dout = s.dout := rfl
@[simp] theorem State.setFlag_flag (b : Bool) (s : State) :
    (s.setFlag b).flag = b := rfl
@[simp] theorem State.setFlag_err (b : Bool) (s : State) :
    (s.setFlag b).err = s.err := rfl
@[simp] theorem State.setFlag_pending (b : Bool) (s : State) :
    (s.setFlag b).pending = s.pending := rfl
@[simp] theorem State.setFlag_reads (b : Bool) (s : State) :
    (s.setFlag b).reads = s.reads := rfl

@[simp] theorem State.setSlot_sk (k : Fin 3) (v : Key) (s : State) :
    (s.setSlot k v).sk = s.sk :=
  State.setKey_sk _ s
@[simp] theorem State.setSlot_sklen (k : Fin 3) (v : Key) (s : State) :
    (s.setSlot k v).sklen = s.sklen :=
  State.setKey_sklen _ s
@[simp] theorem State.setSlot_dir (k : Fin 3) (v : Key) (s : State) :
    (s.setSlot k v).dir = s.dir :=
  State.setKey_dir _ s
@[simp] theorem State.setSlot_scr (k : Fin 3) (v : Key) (s : State) :
    (s.setSlot k v).scr = s.scr :=
  State.setKey_scr _ s
@[simp] theorem State.setSlot_din (k : Fin 3) (v : Key) (s : State) :
    (s.setSlot k v).din = s.din :=
  State.setKey_din _ s
@[simp] theorem State.setSlot_dout (k : Fin 3) (v : Key) (s : State) :
    (s.setSlot k v).dout = s.dout :=
  State.setKey_dout _ s
@[simp] theorem State.setSlot_flag (k : Fin 3) (v : Key) (s : State) :
    (s.setSlot k v).flag = s.flag :=
  State.setKey_flag _ s
@[simp] theorem State.setSlot_err (k : Fin 3) (v : Key) (s : State) :
    (s.setSlot k v).err = s.err :=
  State.setKey_err _ s
@[simp] theorem State.setSlot_pending (k : Fin 3) (v : Key) (s : State) :
    (s.setSlot k v).pending = s.pending :=
  State.setKey_pending _ s
@[simp] theorem State.setSlot_reads (k : Fin 3) (v : Key) (s : State) :
    (s.setSlot k v).reads = s.reads :=
  State.setKey_reads _ s

@[simp] theorem State.withNext_key (e : HostEvent) (s : State) :
    (s.withNext e).key = s.key := rfl
@[simp] theorem State.withNext_sk (e : HostEvent) (s : State) :
    (s.withNext e).sk = s.sk := rfl
@[simp] theorem State.withNext_sklen (e : HostEvent) (s : State) :
    (s.withNext e).sklen = s.sklen := rfl
@[simp] theorem State.withNext_dir (e : HostEvent) (s : State) :
    (s.withNext e).dir = s.dir := rfl
@[simp] theorem State.withNext_scr (e : HostEvent) (s : State) :
    (s.withNext e).scr = s.scr := rfl
@[simp] theorem State.withNext_din (e : HostEvent) (s : State) :
    (s.withNext e).din = s.din := rfl
@[simp] theorem State.withNext_dout (e : HostEvent) (s : State) :
    (s.withNext e).dout = s.dout := rfl
@[simp] theorem State.withNext_flag (e : HostEvent) (s : State) :
    (s.withNext e).flag = s.flag := rfl
@[simp] theorem State.withNext_err (e : HostEvent) (s : State) :
    (s.withNext e).err = s.err := rfl
@[simp] theorem State.withNext_pending (e : HostEvent) (s : State) :
    (s.withNext e).pending = e :: s.pending := rfl
@[simp] theorem State.withNext_reads (e : HostEvent) (s : State) :
    (s.withNext e).reads = s.reads := rfl

@[simp] theorem State.reset_key : State.reset.key = zeros 24 := rfl
@[simp] theorem State.reset_sk : State.reset.sk = zeros 96 := rfl
@[simp] theorem State.reset_sklen : State.reset.sklen = .empty := rfl
@[simp] theorem State.reset_dir : State.reset.dir = .enc := rfl
@[simp] theorem State.reset_scr : State.reset.scr = zeros 96 := rfl
@[simp] theorem State.reset_din : State.reset.din = zeros 8 := rfl
@[simp] theorem State.reset_dout : State.reset.dout = zeros 8 := rfl
@[simp] theorem State.reset_flag : State.reset.flag = false := rfl
@[simp] theorem State.reset_err : State.reset.err = none := rfl
@[simp] theorem State.reset_pending : State.reset.pending = [] := rfl
@[simp] theorem State.reset_reads : State.reset.reads = [] := rfl

/-- `CLR` gives the reset state in every element of the block (spec/46_context_control.md R190). -/
theorem State.clear_eq_reset (s : State) :
    s.clear = { State.reset with pending := s.pending, reads := s.reads } := rfl

theorem State.clear_clear (s : State) : s.clear.clear = s.clear := rfl

/-- A state is its eleven fields. -/
theorem State.ext_fields {s t : State} (hkey : s.key = t.key) (hsk : s.sk = t.sk) (hsklen : s.sklen = t.sklen)
    (hdir : s.dir = t.dir) (hscr : s.scr = t.scr) (hdin : s.din = t.din) (hdout : s.dout = t.dout)
    (hflag : s.flag = t.flag) (herr : s.err = t.err) (hpending : s.pending = t.pending) (hreads : s.reads = t.reads) :
    s = t := by
  cases s; cases t; simp_all

end Sys2Proof.Machine
end

