-- ==== Sys2Proof/Laws/Words.lean ====
section
/-! SUPPORT. What the operations on words, bytes and bits do, one lemma per operation. -/

namespace Sys2Proof.Machine

@[simp] theorem zeros_getElem {w n : Nat} (i : Nat) (h : i < n) : (zeros n : Vector (BitVec w) n)[i] = 0#w := by
  simp [zeros]

/-- `ROL32` is the shift form of spec/00_scope.md R11. -/
theorem rol32_eq_shifts (a : Word) (n : Nat) (h : n < 32) : rol32 a n = (a <<< n) ||| (a >>> (32 - n)) := by
  simp [rol32, BitVec.rotateLeft, BitVec.rotateLeftAux, Nat.mod_eq_of_lt h]

/-- `ROR32(a, n)` is `ROL32(a, 32 - n)` (R11). -/
theorem ror32_eq_rol32 (a : Word) (n : Nat) (h0 : 0 < n) (h : n < 32) : ror32 a n = rol32 a (32 - n) := by
  have h' : 32 - n < 32 := by omega
  rw [rol32_eq_shifts a _ h']
  have h2 : 32 - (32 - n) = n := by omega
  simp [ror32, BitVec.rotateRight, BitVec.rotateRightAux, Nat.mod_eq_of_lt h, h2, BitVec.or_comm]

/-- `ROL28` is the shift form of R11, the mask being the width. -/
theorem rol28_eq_shifts (a : U28) (n : Nat) (h : n < 28) : rol28 a n = (a <<< n) ||| (a >>> (28 - n)) := by
  simp [rol28, BitVec.rotateLeft, BitVec.rotateLeftAux, Nat.mod_eq_of_lt h]

theorem rol32_getLsbD (a : Word) (i : Nat) (h : i < 32) : (rol32 a 1).getLsbD i = a.getLsbD ((i + 31) % 32) := by
  rw [rol32_eq_shifts a 1 (by omega)]
  interval_cases i <;> simp

theorem ror32_rol32 (a : Word) (n : Nat) (h : n < 32) : ror32 (rol32 a n) n = a := by
  apply BitVec.eq_of_getLsbD_eq
  intro i hi
  simp only [ror32, rol32, BitVec.getLsbD_rotateRight, BitVec.getLsbD_rotateLeft, Nat.mod_eq_of_lt h]
  by_cases c : i < 32 - n
  · have h1 : n + i < 32 := by omega
    simp [c, h1]
  · have h1 : i - (32 - n) < n := by omega
    have h2 : 32 - n + (i - (32 - n)) = i := by omega
    simp [c, h1, h2, hi]

theorem rol32_ror32 (a : Word) (n : Nat) (h : n < 32) : rol32 (ror32 a n) n = a := by
  apply BitVec.eq_of_getLsbD_eq
  intro i hi
  simp only [ror32, rol32, BitVec.getLsbD_rotateRight, BitVec.getLsbD_rotateLeft, Nat.mod_eq_of_lt h]
  by_cases c : i < n
  · have h1 : 32 - n + i < 32 := by omega
    simp [c, h1]
  · have h1 : i - n < 32 - n := by omega
    have h2 : n + (i - n) = i := by omega
    simp [c, h1, h2, hi]

/-- FIPS bits of a permuted value: bit `j` of the result is bit `T[j]` of the argument (R10). -/
theorem fbit_perm {n m : Nat} (v : BitVec n) (t : Vector Nat m) (j : Nat) (h1 : 1 ≤ j) (h2 : j ≤ m) :
    fbit (perm v t) j = fbit v (t[j - 1]'(by omega)) := by
  have h : m - 1 - (m - j) = j - 1 := by omega
  simp [fbit, perm, show m - j < m by omega, h]

/-- The bits of a permuted value in the numbering of R9. -/
theorem getLsbD_perm {n m : Nat} (v : BitVec n) (t : Vector Nat m) (b : Nat) (h : b < m) :
    (perm v t : BitVec m).getLsbD b = v.getLsbD (n - t[m - 1 - b]) := by
  simp [fbit, perm, h]

/-- A swap line whose two fields fit its mask undoes itself. -/
theorem deltaSwap_deltaSwap (n : Nat) (mask a b : Word) (hm : (mask <<< n) >>> n = mask) :
    deltaSwap n mask (deltaSwap n mask a b).1 (deltaSwap n mask a b).2 = (a, b) := by
  have hfit : ∀ t : Word, ((t &&& mask) <<< n) >>> n = t &&& mask := by
    intro t
    apply BitVec.eq_of_getLsbD_eq
    intro i hi
    have hb := congrArg (fun x : Word => x.getLsbD i) hm
    simp only [BitVec.getLsbD_ushiftRight, BitVec.getLsbD_shiftLeft] at hb
    simp only [BitVec.getLsbD_ushiftRight, BitVec.getLsbD_shiftLeft, BitVec.getLsbD_and]
    by_cases hn : n + i < 32
    · simp [hn]
    · simp [hn] at hb
      simp [hn, ← hb]
  have ht : ∀ x y : Word, (((x ^^^ ((((x >>> n) ^^^ y) &&& mask) <<< n)) >>> n) ^^^
      (y ^^^ (((x >>> n) ^^^ y) &&& mask))) &&& mask = ((x >>> n) ^^^ y) &&& mask := by
    intro x y
    rw [BitVec.ushiftRight_xor_distrib, hfit]
    apply BitVec.eq_of_getLsbD_eq
    intro i hi
    simp only [BitVec.getLsbD_xor, BitVec.getLsbD_and]
    cases (x >>> n).getLsbD i <;> cases y.getLsbD i <;> cases mask.getLsbD i <;> rfl
  simp only [deltaSwap, ht]
  simp

/-- The two results of a swap line, bit by bit: where the mask selects a bit the other word gives it. -/
theorem deltaSwap_snd_getLsbD (n : Nat) (mask a b : Word) (i : Nat) :
    (deltaSwap n mask a b).2.getLsbD i = if mask.getLsbD i then a.getLsbD (n + i) else b.getLsbD i := by
  simp only [deltaSwap, BitVec.getLsbD_xor, BitVec.getLsbD_and, BitVec.getLsbD_ushiftRight]
  cases mask.getLsbD i <;> cases b.getLsbD i <;> simp

theorem deltaSwap_fst_getLsbD (n : Nat) (mask a b : Word) (i : Nat) (hi : i < 32) :
    (deltaSwap n mask a b).1.getLsbD i =
      if n ≤ i ∧ mask.getLsbD (i - n) then b.getLsbD (i - n) else a.getLsbD i := by
  simp only [deltaSwap, BitVec.getLsbD_xor, BitVec.getLsbD_and, BitVec.getLsbD_ushiftRight, BitVec.getLsbD_shiftLeft]
  by_cases h : n ≤ i
  · have h1 : ¬ i < n := by omega
    have h2 : n + (i - n) = i := by omega
    simp only [h1, h2, hi, h, true_and, decide_true, decide_false, Bool.not_false, Bool.true_and]
    cases mask.getLsbD (i - n) <;> cases a.getLsbD i <;> simp
  · have h1 : i < n := by omega
    simp [h1, h]

theorem getLsbD_append64 (x y : Word) (i : Nat) :
    (x ++ y : U64).getLsbD i = if i < 32 then y.getLsbD i else x.getLsbD (i - 32) :=
  BitVec.getLsbD_append

theorem getLsbD_append56 (x y : U28) (i : Nat) :
    (x ++ y : BitVec 56).getLsbD i = if i < 28 then y.getLsbD i else x.getLsbD (i - 28) :=
  BitVec.getLsbD_append

/-- The bits of a word packed from bytes (R12). -/
theorem getLsbD_be32 (a b c d : Byte) (i : Nat) :
    (be32 a b c d).getLsbD i = if i < 8 then d.getLsbD i else if i - 8 < 8 then c.getLsbD (i - 8) else
      if i - 8 - 8 < 8 then b.getLsbD (i - 8 - 8) else a.getLsbD (i - 8 - 8 - 8) := by
  simp only [be32]
  rw [BitVec.getLsbD_append, BitVec.getLsbD_append, BitVec.getLsbD_append]

/-- `perm` carries XOR to XOR. -/
theorem perm_xor {n m : Nat} (a b : BitVec n) (t : Vector Nat m) :
    (perm (a ^^^ b) t : BitVec m) = perm a t ^^^ perm b t := by
  apply BitVec.eq_of_getLsbD_eq
  intro i hi
  simp only [getLsbD_perm _ _ _ hi, BitVec.getLsbD_xor]

/-- Two functions that carry XOR to XOR and agree on the single bits agree everywhere. -/
theorem eq_of_xor_linear {n m : Nat} (f g : BitVec n → BitVec m)
    (hf : ∀ a b, f (a ^^^ b) = f a ^^^ f b) (hg : ∀ a b, g (a ^^^ b) = g a ^^^ g b)
    (h : ∀ i : Fin n, f (BitVec.twoPow n i.val) = g (BitVec.twoPow n i.val)) (x : BitVec n) : f x = g x := by
  have h0 : f 0#n = g 0#n := by
    have hf0 := hf 0#n 0#n
    have hg0 := hg 0#n 0#n
    simp only [BitVec.xor_self] at hf0 hg0
    rw [hf0, hg0]
  have key : ∀ k ≤ n, ∀ y : BitVec n, (∀ i, k ≤ i → y.getLsbD i = false) → f y = g y := by
    intro k
    induction k with
    | zero =>
      intro _ y hy
      have : y = 0#n := BitVec.eq_of_getLsbD_eq fun i _ => by simp [hy i (Nat.zero_le i)]
      rw [this, h0]
    | succ k ih =>
      intro hk y hy
      by_cases hb : y.getLsbD k = true
      · have hz : f (y ^^^ BitVec.twoPow n k) = g (y ^^^ BitVec.twoPow n k) := by
          apply ih (by omega)
          intro i hi
          rcases Nat.eq_or_lt_of_le hi with rfl | hlt
          · simp [hb, show k < n by omega]
          · simp [hy i hlt, show k ≠ i by omega]
        have hy' : y = (y ^^^ BitVec.twoPow n k) ^^^ BitVec.twoPow n k := by
          rw [BitVec.xor_assoc, BitVec.xor_self, BitVec.xor_zero]
        rw [hy', hf, hg, hz, h ⟨k, by omega⟩]
      · apply ih (by omega)
        intro i hi
        rcases Nat.eq_or_lt_of_le hi with rfl | hlt
        · simpa using hb
        · exact hy i hlt
  exact key n le_rfl x fun i hi => BitVec.getLsbD_of_ge _ _ hi

@[simp] theorem segment_getElem (s : Cascade) (p : Fin 3) (i : Nat) (h : i < 32) :
    (segment s p)[i] = s[32 * p.val + i]'(by have := p.isLt; omega) := by
  simp [segment]

@[simp] theorem setWordAt_getElem {n : Nat} (a : Vector Byte n) (j : Nat) (v : Word) (i : Nat) (h : i < n) :
    (setWordAt a j v)[i] = if i / 4 = j then (unbe32 v)[i % 4]'(by omega) else a[i] := by
  simp [setWordAt]

/-- A word write leaves the bytes of every other word alone (spec/20_memory.md R52). -/
theorem setWordAt_other {n : Nat} (a : Vector Byte n) (j : Nat) (v : Word) (i : Nat) (h : i < n) (hne : i / 4 ≠ j) :
    (setWordAt a j v)[i] = a[i] := by
  simp [hne]

end Sys2Proof.Machine
end

