-- ==== Sys2Proof/Laws/Ops.lean ====
section
/-! SUPPORT. What each shared operation can do, said once; later proofs cite these and do not unfold the operations. -/

namespace Sys2Proof.Machine

/-! ### The error-mode test -/

@[simp] theorem errorMode_iff (s : State) : s.errorMode = true ↔ s.err ≠ none := by
  simp [State.errorMode, Option.isSome_iff_ne_none]

theorem inNormalMode_of_normal {s : State} (op : State → State) (h : s.err = none) :
    inNormalMode s op = .next (op s) := by
  simp [inNormalMode, State.errorMode, h]

theorem inNormalMode_of_error {s : State} (op : State → State) (h : s.err ≠ none) :
    inNormalMode s op = .next s := by
  simp [inNormalMode, h]

/-- All that a command guarded by the error-mode test can do. -/
theorem inNormalMode_eq_next {s t : State} {op : State → State} :
    inNormalMode s op = .next t ↔ (s.err = none ∧ t = op s) ∨ (s.err ≠ none ∧ t = s) := by
  by_cases h : s.err = none
  · simp [inNormalMode_of_normal op h, h, eq_comm]
  · simp [inNormalMode_of_error op h, h, eq_comm]

theorem inNormalMode_completes (s : State) (op : State → State) : ∃ t, inNormalMode s op = .next t := by
  by_cases h : s.err = none
  · exact ⟨_, inNormalMode_of_normal op h⟩
  · exact ⟨_, inNormalMode_of_error op h⟩

/-! ### Slots -/

theorem slotOf_slotBits : ∀ k : Fin 3, slotOf (slotBits k) = some k := by decide

theorem slotOf_three : slotOf 3#2 = none := rfl

theorem slotOf_eq_some_iff : ∀ n k, slotOf n = some k ↔ n = slotBits k := by decide

@[simp] theorem onSlot_slotBits (k : Fin 3) (op : Fin 3 → State → State) (s : State) :
    onSlot (slotBits k) op s = op k s := by
  simp [onSlot, slotOf_slotBits]

@[simp] theorem onSlot_three (op : Fin 3 → State → State) (s : State) :
    onSlot 3#2 op s = s.raise .illegalCommand := rfl

/-- A well-formed slot number names a slot. -/
theorem wellFormed_slot : ∀ n : BitVec 2, slotWellFormed n = true → ∃ k : Fin 3, n = slotBits k := by decide

@[simp] theorem slot_getElem (s : State) (k : Fin 3) (i : Nat) (h : i < 8) :
    (s.slot k)[i] = s.key[8 * k.val + i]'(by have := k.isLt; omega) := by
  simp [State.slot]

@[simp] theorem setSlot_key_getElem (k : Fin 3) (v : Key) (s : State) (i : Nat) (h : i < 24) :
    (s.setSlot k v).key[i] = if i / 8 = k.val then v[i % 8]'(by omega) else s.key[i] := by
  simp [State.setSlot]

/-- Reading back the slot written. -/
theorem slot_setSlot_same (k : Fin 3) (v : Key) (s : State) : (s.setSlot k v).slot k = v := by
  ext i hi
  have h1 : (8 * k.val + i) / 8 = k.val := by omega
  have h2 : (8 * k.val + i) % 8 = i := by omega
  simp [h1, h2]

/-- A slot write leaves the other slots alone. -/
theorem slot_setSlot_other (j k : Fin 3) (v : Key) (s : State) (hne : j ≠ k) : (s.setSlot k v).slot j = s.slot j := by
  ext i hi
  have h1 : (8 * j.val + i) / 8 ≠ k.val := by
    have : (8 * j.val + i) / 8 = j.val := by omega
    rw [this]; exact fun h => hne (Fin.ext h)
  simp [h1]

/-! ### The precondition of the block commands -/

theorem cryptWith_of_len {len : SchedLen} (f : State → Block) {s : State} (h : s.sklen = len) :
    cryptWith len f s = s.setDout (f s) := by
  simp [cryptWith, h]

theorem cryptWith_of_ne {len : SchedLen} (f : State → Block) {s : State} (h : s.sklen ≠ len) :
    cryptWith len f s = s.raise .invalidLength := by
  simp [cryptWith, h]

/-! ### Every command and every word completes -/

theorem exec_clr (s : State) : exec .clr s = .next s.clear := rfl

theorem exec_ks1E (s : State) : exec .ks1E s = inNormalMode s fun s =>
    s.setContext (singleContext (generateSchedule (s.slot 0))) .single .enc := rfl

theorem exec_ks1D (s : State) : exec .ks1D s = inNormalMode s fun s =>
    s.setContext (singleContext (reversePairs (generateSchedule (s.slot 0)))) .single .dec := rfl

theorem exec_ks2E (s : State) : exec .ks2E s = inNormalMode s fun s =>
    s.setContext (compose2Enc (s.slot 0) (s.slot 1)) .cascade .enc := rfl

theorem exec_ks2D (s : State) : exec .ks2D s = inNormalMode s fun s =>
    s.setContext (compose2Dec (s.slot 0) (s.slot 1)) .cascade .dec := rfl

theorem exec_ks3E (s : State) : exec .ks3E s = inNormalMode s fun s =>
    s.setContext (compose3Enc (s.slot 0) (s.slot 1) (s.slot 2)) .cascade .enc := rfl

theorem exec_ks3D (s : State) : exec .ks3D s = inNormalMode s fun s =>
    s.setContext (compose3Dec (s.slot 0) (s.slot 1) (s.slot 2)) .cascade .dec := rfl

theorem exec_crypt1 (s : State) : exec .crypt1 s = inNormalMode s
    (cryptWith .single fun s => processBlock (segment s.sk 0) s.din) := rfl

theorem exec_crypt3 (s : State) : exec .crypt3 s = inNormalMode s
    (cryptWith .cascade fun s => processBlock3 s.sk s.din) := rfl

theorem exec_parset (n : BitVec 2) (s : State) : exec (.parset n) s = inNormalMode s
    (onSlot n fun k s => s.setSlot k (setOddParity (s.slot k))) := rfl

theorem exec_parchk (n : BitVec 2) (s : State) : exec (.parchk n) s = inNormalMode s
    (onSlot n fun k s => s.setFlag (checkOddParity (s.slot k))) := rfl

theorem exec_weakchk (n : BitVec 2) (s : State) : exec (.weakchk n) s = inNormalMode s
    (onSlot n fun k s => s.setFlag (checkWeak (s.slot k))) := rfl

/-- Every command but `CLR` is one operation behind the error-mode test; later proofs about all commands start here. -/
theorem exec_guarded (i : Instr) (hi : i ≠ .clr) : ∃ op : State → State, ∀ s, exec i s = inNormalMode s op := by
  cases i with
  | clr => exact absurd rfl hi
  | ks1E => exact ⟨_, exec_ks1E⟩
  | ks2E => exact ⟨_, exec_ks2E⟩
  | ks3E => exact ⟨_, exec_ks3E⟩
  | ks1D => exact ⟨_, exec_ks1D⟩
  | ks2D => exact ⟨_, exec_ks2D⟩
  | ks3D => exact ⟨_, exec_ks3D⟩
  | crypt1 => exact ⟨_, exec_crypt1⟩
  | crypt3 => exact ⟨_, exec_crypt3⟩
  | parset n => exact ⟨_, exec_parset n⟩
  | parchk n => exact ⟨_, exec_parchk n⟩
  | weakchk n => exact ⟨_, exec_weakchk n⟩

theorem exec_completes (i : Instr) (s : State) : ∃ t, exec i s = .next t := by
  by_cases hi : i = .clr
  · subst hi; exact ⟨_, exec_clr s⟩
  · obtain ⟨op, h⟩ := exec_guarded i hi
    rw [h]; exact inNormalMode_completes s op

theorem execute_completes (w : Word) (s : State) : ∃ t, execute w s = .next t := by
  unfold execute
  cases decode w with
  | none => simp only [execReserved]; exact inNormalMode_completes s _
  | some i => exact exec_completes i s

/-- In error mode every command but `CLR` is ignored (spec/60_exceptions.md R207). -/
theorem exec_of_error {i : Instr} {s : State} (hi : i ≠ .clr) (h : s.err ≠ none) : exec i s = .next s := by
  obtain ⟨op, he⟩ := exec_guarded i hi
  rw [he, inNormalMode_of_error op h]

/-! ### The window -/

theorem writeReg_completes (r : Reg) (v : Word) (s : State) : ∃ t, writeReg r v s = .next t := by
  cases r
  case cmd => exact execute_completes v s
  all_goals exact ⟨_, rfl⟩

theorem regWrite_cmd (v : Word) (s : State) : regWrite 0 v s = execute v s := rfl

theorem inWindow_iff (off : Int) : inWindow off = true ↔ 0 ≤ off ∧ off ≤ 0x7FC ∧ off % 4 = 0 := by
  simp [inWindow]

/-! ### A step, by what the host has pending -/

theorem step_idle {s : State} (h : s.pending = []) : step s = .next s := by
  simp [step, stepBlock, h]

theorem step_event {s : State} {e : HostEvent} {rest : List HostEvent} (h : s.pending = e :: rest) :
    step s = perform e { s with pending := rest } := by
  simp [step, stepBlock, h]

/-- All that a step can do. -/
theorem step_cases {s t : State} (h : step s = .next t) :
    (s.pending = [] ∧ t = s) ∨
    ∃ e rest, s.pending = e :: rest ∧
      ((∃ off, e = .read off .w32 ∧ inWindow off = true ∧
          t = { s with pending := rest, reads := s.reads ++ [regRead s off.toNat] }) ∨
       (∃ off v, e = .write off (.u32 v) ∧ inWindow off = true ∧
          regWrite off.toNat v { s with pending := rest } = .next t) ∨
       (e = .reset ∧ t = State.clear { s with pending := rest })) := by
  cases hp : s.pending with
  | nil =>
    rw [step_idle hp] at h
    exact .inl ⟨rfl, by injection h with h; exact h.symm⟩
  | cons e rest =>
    rw [step_event hp] at h
    refine .inr ⟨e, rest, rfl, ?_⟩
    cases e with
    | read off w =>
      simp only [perform, hostRead] at h
      split at h
      · next hc =>
        obtain ⟨rfl, hc⟩ := hc
        injection h with h
        refine .inl ⟨off, rfl, hc, ?_⟩
        rw [← h]
        have : regRead { s with pending := rest } off.toNat = regRead s off.toNat := by
          simp only [regRead]; cases regAt off.toNat <;> rfl
        simp [this]
      · cases h
    | write off d =>
      cases d with
      | u32 v =>
        simp only [perform, hostWrite] at h
        split at h
        · next hc => exact .inr (.inl ⟨off, v, rfl, hc, h⟩)
        · cases h
      | u8 _ => cases h
      | u16 _ => cases h
      | u64 _ => cases h
    | reset =>
      injection h with h
      exact .inr (.inr ⟨rfl, h.symm⟩)

end Sys2Proof.Machine
end

