-- ==== Sys2Proof/Laws/PerInstr.lean ====
section
/-! SUPPORT. A fact about every command as it is written: the family `CodeByte`. -/

namespace Sys2Proof.Laws.CodeByte

/-- The encoded command is its code byte zero-extended (spec/30_encoding.md R70, R77). -/
def Statement (i : Instr) : Prop := encode i = commandWord (codeByte (encode i))

theorem clr : Statement .clr := by unfold Statement; decide
theorem ks1E : Statement .ks1E := by unfold Statement; decide
theorem ks2E : Statement .ks2E := by unfold Statement; decide
theorem ks3E : Statement .ks3E := by unfold Statement; decide
theorem ks1D : Statement .ks1D := by unfold Statement; decide
theorem ks2D : Statement .ks2D := by unfold Statement; decide
theorem ks3D : Statement .ks3D := by unfold Statement; decide
theorem crypt1 : Statement .crypt1 := by unfold Statement; decide
theorem crypt3 : Statement .crypt3 := by unfold Statement; decide
theorem parset (s : BitVec 2) : Statement (.parset s) := by revert s; unfold Statement; decide
theorem parchk (s : BitVec 2) : Statement (.parchk s) := by revert s; unfold Statement; decide
theorem weakchk (s : BitVec 2) : Statement (.weakchk s) := by revert s; unfold Statement; decide

end Sys2Proof.Laws.CodeByte
end

