-- ==== Sys2Proof/Laws/Tables.lean ====
section
/-! SUPPORT. The listings of the constant tables against the forms that govern them (spec/40_sbox_array.md R91,
spec/45_key_hygiene.md R176), and the checks on the published tables that the spec names. -/

namespace Sys2Proof.Machine

-- One declaration at a time: each thread that waits for the kernel holds a stack of its own.
set_option Elab.async false

/-- Every listed entry of `SB1` to `SB8` is the published S-box, `P` and one rotation (R95 against R96 to R103). -/
theorem sbListed_eq_published : ∀ k : Fin 8, ∀ i : BitVec 6, lookup6 (sbListed k) i = sbPublished k i := by
  decide +kernel

/-- The listing of `PAR` is its closed form (R176). -/
theorem parListing_eq_par : parListing = (List.range 128).map fun i => par (BitVec.ofNat 7 i) := by
  decide +kernel

/-- `LHS` scatters its index (R113). -/
theorem lhs_closed_form : ∀ i : BitVec 4, lookup4 lhs i =
    ((i.extractLsb' 0 1).setWidth 32 ||| ((i.extractLsb' 1 1).setWidth 32 <<< 8) |||
      ((i.extractLsb' 2 1).setWidth 32 <<< 16) ||| ((i.extractLsb' 3 1).setWidth 32 <<< 24)) := by
  decide +kernel

/-- `RHS` scatters its index the other way round (R113). -/
theorem rhs_closed_form : ∀ i : BitVec 4, lookup4 rhs i =
    (((i.extractLsb' 0 1).setWidth 32 <<< 24) ||| ((i.extractLsb' 1 1).setWidth 32 <<< 16) |||
      ((i.extractLsb' 2 1).setWidth 32 <<< 8) ||| (i.extractLsb' 3 1).setWidth 32) := by
  decide +kernel

/-- "Every row of every table is a permutation of 0..15" (R92): each of the 16 values stands in each row of 16. -/
theorem publishedS_rows : ∀ k : Fin 8, ∀ r : Fin 4, ∀ v : BitVec 4, ((publishedS k)[r].toList.contains v) = true := by
  decide +kernel

/-- `PC1` never names a parity bit (R114). -/
theorem tablePC1_no_parity : ∀ i : Fin 56, tablePC1[i] % 8 ≠ 0 := by
  decide +kernel

/-- Every weak key has odd parity in every byte (R179). -/
theorem weakKeys_odd (w : Key) (h : w ∈ weakKeys) : setOddParity w = w := by
  have hall : (weakKeys.all fun w => decide (setOddParity w = w)) = true := by decide +kernel
  simpa using List.all_eq_true.mp hall w h

theorem weakKeys_length : weakKeys.length = 16 := rfl

end Sys2Proof.Machine
end

