-- ==== Sys2Proof/Tests/Slice0.lean ====
section
/-! SUPPORT. The model's own tests. Expected values are those the spec prints (the rules' examples and
spec/95_test_vectors.md); each test names its source. After them, for every statement of Certificates/Slice0 with hypotheses,
a witness that they can be met together. -/

namespace Sys2Proof.Tests

-- One declaration at a time: each thread that waits for the kernel holds a stack of its own.
set_option Elab.async false

open Sys2Proof.Machine

/-- The state after one step, where there is one. -/
def after (s : State) : Option State :=
  match step s with
  | .next t => some t
  | .fault _ => none
  | .refused _ => none

/-- The state after one command word from `s`. -/
def command (w : Nat) (s : State) : Option State := after (s.withFetchWord 32 w)

/-- The state after one host access from `s`. -/
def access (e : HostEvent) (s : State) : Option State := after (s.withNext e)

/-- Slots 0, 1, 2 hold the keys of spec/42_cascade_key_composer.md section 2. -/
def keyed : State := stateWithKeys exampleKey1 exampleKey2 exampleKey3

/-- An error is latched. -/
def errored : State := { keyed with err := some .illegalCommand }

/-! ### Well-formedness: the ill-formed terms are refused -/

theorem test_parset_slot3_ill_formed : (Instr.parset 3#2).wellFormed = false := by decide
theorem test_parchk_slot3_ill_formed : (Instr.parchk 3#2).wellFormed = false := by decide
theorem test_weakchk_slot3_ill_formed : (Instr.weakchk 3#2).wellFormed = false := by decide
theorem test_parset_slot2_well_formed : (Instr.parset 2#2).wellFormed = true := by decide

/-! ### Decoding: words written out from spec/30_encoding.md R77 -/

theorem test_decode_clr : decode 0b00000000000000000000000000000001#32 = some .clr := by decide
theorem test_decode_ks1E : decode 0b00000000000000000000000000010000#32 = some .ks1E := by decide
theorem test_decode_ks2E : decode 0b00000000000000000000000000010001#32 = some .ks2E := by decide
theorem test_decode_ks3E : decode 0b00000000000000000000000000010010#32 = some .ks3E := by decide
theorem test_decode_ks1D : decode 0b00000000000000000000000000010100#32 = some .ks1D := by decide
theorem test_decode_ks2D : decode 0b00000000000000000000000000010101#32 = some .ks2D := by decide
theorem test_decode_ks3D : decode 0b00000000000000000000000000010110#32 = some .ks3D := by decide
theorem test_decode_crypt1 : decode 0b00000000000000000000000000100000#32 = some .crypt1 := by decide
theorem test_decode_crypt3 : decode 0b00000000000000000000000000100001#32 = some .crypt3 := by decide
theorem test_decode_parset1 : decode 0b00000000000000000000000000110001#32 = some (.parset 1#2) := by decide
theorem test_decode_parchk2 : decode 0b00000000000000000000000000110110#32 = some (.parchk 2#2) := by decide
theorem test_decode_weakchk0 : decode 0b00000000000000000000000000111000#32 = some (.weakchk 0#2) := by decide

/-- spec/95_test_vectors.md 3.1: the sample of reserved words. -/
theorem test_decode_reserved : ([0x00000000, 0x00000002, 0x00000013, 0x00000017, 0x00000018, 0x00000022, 0x00000028,
    0x00000033, 0x0000003B, 0x0000003C, 0x00000040, 0x000000FF, 0x00000110, 0x80000001, 0xFFFFFFFF].all
    fun w => decide (decode w = none)) = true := by decide +kernel

theorem test_table_word_weakchk1 : decodeTableWord 32 0x39 = some (.weakchk 1#2) := by decide
theorem test_text_parset0 : (Instr.parset 0#2).text = "PARSET 0" := by decide +kernel

/-! ### The functions, on the spec's intermediate values -/

/-- spec/95_test_vectors.md 3.3, V-KS1: `C` and `D` after PC1. -/
theorem test_pc1_example : loadKeyRegs exampleKey1 = ⟨0xF0CCAAF, 0x556678F⟩ := by decide +kernel

/-- V-KS1: `C` and `D` in round 2, after the rotations of rounds 0 to 2. -/
theorem test_regs_round2 : regsAfter (loadKeyRegs exampleKey1) 3 = ⟨0x0CCAAFF, 0x56678F5⟩ := by decide +kernel

/-- V-KS1: the published `K(1)`. -/
theorem test_fips_round_key_1 : (fipsRoundKeys exampleKey1)[0] = 0x1B02EFFC7072#48 := by decide +kernel

/-- spec/43_initial_final_permutation.md R148. -/
theorem test_fp_example : fp ⟨0x980199FF, 0xE155E155⟩ = ⟨0x01234567, 0x89ABCDEF⟩ := by decide +kernel

/-- spec/95_test_vectors.md 3.5, last row. -/
theorem test_ip_deadbeef : ip ⟨0xDEADBEEF, 0xCAFEBABE⟩ = ⟨0x73CB5E14, 0xFFDDFFFB⟩ := by decide +kernel

/-- spec/95_test_vectors.md 3.6, V-C1-1, round 0. -/
theorem test_roundF_example : roundF 0xE155E155 0x302F0732 0x060B3F01 = 0x46955376 := by decide +kernel

/-- spec/40_sbox_array.md R93: `sbox(1, 0b011011) = 5`. -/
theorem test_sbox_example : sbox 0 0b011011#6 = 5 := by decide +kernel

/-- spec/95_test_vectors.md E2: the zero block under the key of eight `01` bytes. -/
theorem test_known_answer_zero : processBlock (generateSchedule (Vector.replicate 8 0x01)) (zeros 8) =
    #v[0x8C, 0xA6, 0x4D, 0xE9, 0xC1, 0xB1, 0x23, 0xA7] := by decide +kernel

/-- spec/95_test_vectors.md 3.8: `PAR[9] = 0x13`, `PAR[127] = 0xFE`. -/
theorem test_par_samples : par 9 = 0x13 ∧ par 127 = 0xFE := by decide +kernel

/-! ### The commands, one step each -/

/-- spec/95_test_vectors.md 3.3, V-KS1. -/
theorem test_ks1E : (command 0x10 keyed).map (fun t => (t.sk[2], t.sk[31], t.sk[32], t.status)) =
    some (0x1A193C25, 0x3236031F, 0x00000000, 0x00000002) := by decide +kernel

/-- V-KS1D. -/
theorem test_ks1D : (command 0x14 keyed).map (fun t => (t.sk[0], t.sk[29], t.sk[31], t.status)) =
    some (0x330B2135, 0x1E3B3627, 0x060B3F01, 0x0000000A) := by decide +kernel

/-- spec/95_test_vectors.md 3.4, V-KS2E. -/
theorem test_ks2E : (command 0x11 keyed).map (fun t => (t.sk[32], t.sk[63], t.sk[95], t.status)) =
    some (0x06040327, 0x0D111E07, 0x3236031F, 0x00000004) := by decide +kernel

/-- V-KS2D. -/
theorem test_ks2D : (command 0x15 keyed).map (fun t => (t.sk[0], t.sk[32], t.sk[95], t.status)) =
    some (0x330B2135, 0x21240E21, 0x060B3F01, 0x0000000C) := by decide +kernel

/-- V-KS3E. -/
theorem test_ks3E : (command 0x12 keyed).map (fun t => (t.sk[1], t.sk[62], t.sk[94], t.status)) =
    some (0x060B3F01, 0x21240E21, 0x241E3400, 0x00000004) := by decide +kernel

/-- V-KS3D: the first segment comes from the third key. -/
theorem test_ks3D : (command 0x16 keyed).map (fun t => (t.sk[0], t.sk[33], t.sk[94], t.status)) =
    some (0x241E3400, 0x0D111E07, 0x302F0732, 0x0000000C) := by decide +kernel

/-- V-C1-1, with the schedule of V-KS1 in place. -/
theorem test_crypt1 : (command 0x20 { State.reset with
    sk := singleContext (generateSchedule exampleKey1), sklen := .single, din := exampleBlock }).map (·.dout) =
    some #v[0x85, 0xE8, 0x13, 0x54, 0x0F, 0x0A, 0xB4, 0x05] := by decide +kernel

/-- spec/95_test_vectors.md 3.9: `CRYPT1` in the reset state. -/
theorem test_crypt1_empty : (command 0x20 State.reset).map (·.status) = some 0x00000020 := by decide +kernel

/-- spec/95_test_vectors.md 3.7, V-C3-1: the first block of the NIST SP 800-67 example. -/
theorem test_crypt3 : (command 0x21 { State.reset with
    sk := compose3Enc nistKey1 nistKey2 nistKey3, sklen := .cascade,
    din := #v[0x54, 0x68, 0x65, 0x20, 0x71, 0x75, 0x66, 0x63] }).map (·.dout) =
    some #v[0xA8, 0x26, 0xFD, 0x8C, 0xE5, 0x3B, 0x85, 0x5F] := by decide +kernel

/-- spec/95_test_vectors.md 3.9: `CRYPT3` on a one-key schedule. -/
theorem test_crypt3_single : (command 0x21 { State.reset with sklen := .single }).map (fun t => (t.status, t.dout)) =
    some (0x00000022, zeros 8) := by decide +kernel

/-- spec/95_test_vectors.md 3.8: `FF E1 FF E1 FF F0 FF F0` in slot 1. -/
theorem test_parset1 : (command 0x31 (stateWithKeys exampleKey1
    #v[0xFF, 0xE1, 0xFF, 0xE1, 0xFF, 0xF0, 0xFF, 0xF0] exampleKey3)).map (fun t => (t.slot 0, t.slot 1, t.slot 2)) =
    some (exampleKey1, #v[0xFE, 0xE0, 0xFE, 0xE0, 0xFE, 0xF1, 0xFE, 0xF1], exampleKey3) := by decide +kernel

/-- spec/95_test_vectors.md 3.8: one byte of even parity, in slot 2. -/
theorem test_parchk2 : (command 0x36 { stateWithKeys exampleKey1 exampleKey1
    #v[0x01, 0x01, 0x01, 0x01, 0x01, 0x01, 0x01, 0x00] with flag := true }).map (·.flag) = some false := by decide +kernel

theorem test_parchk0 : (command 0x34 keyed).map (·.flag) = some true := by decide +kernel

/-- spec/95_test_vectors.md 3.8: `WEAK[13]`'s neighbour in the table, `1F 1F 1F 1F 0E 0E 0E 0E`, and a key off by one bit. -/
theorem test_weakchk2 : (command 0x3A (stateWithKeys exampleKey1 exampleKey1
    #v[0x1F, 0x1F, 0x1F, 0x1F, 0x0E, 0x0E, 0x0E, 0x0E])).map (·.flag) = some true := by decide +kernel

theorem test_weakchk0_parity_off : (command 0x38 { stateWithKeys
    #v[0xE0, 0xE0, 0xE0, 0xE0, 0xF1, 0xF1, 0xF1, 0xF0] exampleKey1 exampleKey1 with flag := true }).map (·.flag) =
    some false := by decide +kernel

/-- spec/95_test_vectors.md 3.9: `CLR` in error mode. -/
theorem test_clr_in_error_mode : command 0x01 errored = some State.reset := by decide +kernel

/-- spec/95_test_vectors.md 3.9: a reserved word, and commands in error mode. -/
theorem test_reserved_word : (command 0x33 State.reset).map (·.status) = some 0x00000010 := by decide +kernel
theorem test_error_mode_ignores : (command 0xFFFFFFFF errored) = some errored := by decide +kernel

/-! ### The window: spec/95_test_vectors.md 3.2 -/

theorem test_write_key_word5 : (access (wr 0x024 0xA1B2C3D4) State.reset).map
    (fun t => (t.key[19], t.key[20], t.key[21], t.key[22], t.key[23])) =
    some (0x00, 0xA1, 0xB2, 0xC3, 0xD4) := by decide +kernel

theorem test_read_key_word1 : (access (rd 0x014) keyed).map (·.reads) = some [0x9BBCDFF1] := by decide +kernel

/-- Writes of `DOUT`, `SK`, `SCR`, `STATUS` and reserved offsets are ignored. -/
theorem test_writes_ignored : ([0x004, 0x008, 0x028, 0x038, 0x200, 0x400, 0x7FC].all fun off =>
    decide (access (wr off 0x11111111) State.reset = some State.reset)) = true := by decide +kernel

/-- The two registers at each edge of the map (R51). -/
theorem test_map_edges : [0x000, 0x004, 0x008, 0x00C, 0x010, 0x024, 0x028, 0x02C, 0x030, 0x034, 0x038, 0x03C, 0x040, 0x1FC,
    0x200, 0x37C, 0x380, 0x3FC, 0x400, 0x57C, 0x580, 0x7FC].map regAt =
    [.cmd, .status, .reserved, .reserved, .keyw 0, .keyw 5, .reserved, .reserved, .dinw 0, .dinw 1, .doutw 0, .doutw 1,
     .reserved, .reserved, .skw 0, .skw 95, .reserved, .reserved, .scrw 0, .scrw 95, .reserved, .reserved] := by
  decide +kernel

/-- spec/95_test_vectors.md 3.2: `STATUS` with every field set. -/
theorem test_status : State.status { State.reset with
    flag := true, sklen := .cascade, dir := .dec, err := some .illegalCommand } = 0x0000001D := by decide +kernel

/-- R54: a byte access, a misaligned access and accesses on both sides of the window are refused. -/
theorem test_undefined_accesses : ([.read 0 .w8, .read 2 .w32, .read 0x800 .w32, .read (-4) .w32, .write 0 (.u16 1)].all
    fun e => decide (access e State.reset = none)) = true := by decide +kernel

/-! ### Witnesses: the hypotheses of each statement can be met together -/

/-- A state whose host writes the command word `w` next. -/
def about (w : Word) (s : State) : State := s.withNext (commandAccess w)

theorem witness_StepRunsTheDecodedCommand :
    (∃ (s : State) (w : Word) (i : Instr) (rest : List HostEvent),
      s.pending = .write 0x000 (.u32 w) :: rest ∧ decode w = some i) ∧ decodeTableWord 32 0x21 = some .crypt3 :=
  ⟨⟨about 0x11 State.reset, 0x11, .ks2E, [], rfl, by decide⟩, by decide⟩

theorem witness_ReservedWordsRaiseIllegalCommand :
    reservedWord 0xFFFFFFFF = true ∧ reservedWord 0 = true ∧ reservedWord 0x40 = true ∧ State.reset.err = none := by
  decide +kernel

theorem witness_ExecuteTestsInFixedOrder :
    (errored.err ≠ none ∧ decode 0x01 = some .clr) ∧ (errored.err ≠ none ∧ decode 0x10 ≠ some .clr) ∧
    (State.reset.err = none ∧ decode 0x00 = none) ∧
    (State.reset.err = none ∧ decode 0x20 = some .crypt1 ∧ schedNeeded .crypt1 = some .single ∧
      State.reset.sklen ≠ .single) ∧
    (State.reset.err = none ∧ decode 0x30 = some (.parset 0) ∧
      ∀ n, schedNeeded (.parset 0) = some n → State.reset.sklen = n) :=
  ⟨⟨by decide, by decide⟩, ⟨by decide, by decide⟩, ⟨rfl, by decide⟩, ⟨rfl, by decide, rfl, by decide⟩,
    ⟨rfl, by decide, (fun _ h => nomatch h)⟩⟩

theorem witness_ErrorModeIgnoresEverythingButClr :
    (errored.err = some .illegalCommand ∧ (0xFF : Word) ≠ 0x00000001 ∧
      (about 0xFF errored).pending = .write 0x000 (.u32 0xFF) :: [] ∧ (about 0xFF errored).err = some .illegalCommand) ∧
    (about 0x01 errored).pending = .write 0x000 (.u32 0x00000001) :: [] ∧
    (inWindow (0x7FC : Nat) = true ∧ (errored.withNext (.read (0x7FC : Nat) .w32)).pending =
      .read (0x7FC : Nat) .w32 :: []) ∧
    (inWindow (0x004 : Nat) = true ∧ inWindow (0x7FC : Nat) = true ∧
      (errored.withNext (wr 0x7FC 7)).pending = .write (0x7FC : Nat) (.u32 7) :: []) ∧
    ((errored.withNext (wr 0x010 7)).pending = .write (0x010 + 4 * (0 : Fin 6).val : Nat) (.u32 7) :: [] ∧
      (errored.withNext (wr 0x024 7)).pending = .write (0x010 + 4 * (5 : Fin 6).val : Nat) (.u32 7) :: []) ∧
    ((errored.withNext (wr 0x030 7)).pending = .write (0x030 + 4 * (0 : Fin 2).val : Nat) (.u32 7) :: [] ∧
      (errored.withNext (wr 0x034 7)).pending = .write (0x030 + 4 * (1 : Fin 2).val : Nat) (.u32 7) :: []) :=
  ⟨⟨rfl, by decide, rfl, rfl⟩, rfl, ⟨by decide, rfl⟩, ⟨by decide, by decide, rfl⟩, ⟨rfl, rfl⟩, rfl, rfl⟩

theorem witness_ErrorEntryWritesOnlyErr :
    ∃ (w : Word) (s t : State) (e : CmdError), s.err = none ∧ execute w s = .next t ∧ t.err = some e :=
  ⟨0, State.reset, State.reset.raise .illegalCommand, .illegalCommand, rfl, rfl, rfl⟩

theorem witness_BlockCommandsNeedTheirScheduleLength :
    (State.reset.err = none ∧ State.reset.sklen = .empty) ∧
    (∃ s : State, s.err = none ∧ s.sklen = .single) ∧ (∃ s : State, s.err = none ∧ s.sklen = .cascade) :=
  ⟨⟨rfl, rfl⟩, ⟨{ State.reset with sklen := .single }, rfl, rfl⟩, ⟨{ State.reset with sklen := .cascade }, rfl, rfl⟩⟩

theorem witness_ErrorsComeOnlyFromCommandWrites :
    (∃ (s t : State) (e : CmdError), s.err = none ∧ step s = .next t ∧ t.err = some e) ∧
    (∃ (w : Word) (i : Instr) (s : State), s.err = none ∧ decode w = some i ∧ isBlock i = false) ∧
    (∃ (w : Word) (s t : State), s.err = none ∧ execute w s = .next t ∧ t.err = none) ∧
    (inWindow (0x000 : Nat) = true ∧ (State.reset.withNext (.read (0x000 : Nat) .w32)).pending =
      .read (0x000 : Nat) .w32 :: []) ∧
    (inWindow (0x7FC : Nat) = true ∧ (State.reset.withNext (wr 0x7FC 1)).pending = .write (0x7FC : Nat) (.u32 1) :: []) ∧
    (∃ s t : State, (∀ w rest, s.pending ≠ .write 0x000 (.u32 w) :: rest) ∧ s.err = none ∧ step s = .next t) :=
  ⟨⟨about 0 State.reset, State.reset.raise .illegalCommand, .illegalCommand, rfl, rfl, rfl⟩,
    ⟨0x30, .parset 0, State.reset, rfl, by decide, rfl⟩, ⟨0x01, State.reset, State.reset, rfl, rfl, rfl⟩,
    ⟨by decide, rfl⟩, ⟨by decide, rfl⟩, State.reset, State.reset, (fun w rest h => nomatch h), rfl, rfl⟩

theorem witness_ErrorModeIsLeftOnlyByClrOrReset :
    (∃ (s t : State) (e : CmdError), s.err = some e ∧ step s = .next t) ∧
    ((about 0x01 errored).err = some .illegalCommand ∧
      (about 0x01 errored).pending = .write 0x000 (.u32 0x00000001) :: []) ∧
    (errored.withNext .reset).pending = .reset :: [] :=
  ⟨⟨errored.withNext .reset, State.reset, .illegalCommand, rfl, rfl⟩, ⟨rfl, rfl⟩, rfl⟩

theorem witness_StepTakesTheOldestEvent :
    (∃ (s t : State) (e : HostEvent) (rest : List HostEvent), s.pending = e :: rest ∧ step s = .next t) ∧
    ((inWindow (0x000 : Nat) = true ∧ inWindow (0x7FC : Nat) = true) ∧
      (State.reset.withNext .reset).pending = .reset :: [] ∧
      (State.reset.withNext (rd 0x7FC)).pending = .read (0x7FC : Nat) .w32 :: [] ∧
      (State.reset.withNext (wr 0x000 0)).pending = .write (0x000 : Nat) (.u32 0) :: []) ∧
    State.reset.pending = [] :=
  ⟨⟨State.reset.withNext .reset, State.reset, .reset, [], rfl, rfl⟩, ⟨⟨by decide, by decide⟩, rfl, rfl, rfl⟩, rfl⟩

theorem witness_KeyScheduleCommands (i : Instr) :
    ∃ s t : State, s.err = none ∧ s.flag = false ∧ s.slot 0 = exampleKey1 ∧ s.slot 1 = exampleKey2 ∧
      s.slot 2 = exampleKey3 ∧ exec i s = .next t := by
  obtain ⟨t, h⟩ := exec_completes i keyed
  exact ⟨keyed, t, rfl, rfl, by decide +kernel, by decide +kernel, by decide +kernel, h⟩

theorem witness_Ks1DOfAWeakKey :
    ∃ (w : Key) (s t u : State), weakKeys[(3 : Fin 4).val]? = some w ∧ s.err = none ∧ s.slot 0 = w ∧
      exec .ks1E s = .next t ∧ exec .ks1D s = .next u := by
  obtain ⟨t, ht⟩ := exec_completes .ks1E (stateWithKeys #v[0xE0, 0xE0, 0xE0, 0xE0, 0xF1, 0xF1, 0xF1, 0xF1] exampleKey1 exampleKey1)
  obtain ⟨u, hu⟩ := exec_completes .ks1D (stateWithKeys #v[0xE0, 0xE0, 0xE0, 0xE0, 0xF1, 0xF1, 0xF1, 0xF1] exampleKey1 exampleKey1)
  exact ⟨_, _, t, u, rfl, rfl, by decide +kernel, ht, hu⟩

theorem witness_Ks1DUndoesKs1E :
    ∃ s t u v w : State, s.err = none ∧ exec .ks1E s = .next t ∧ exec .crypt1 t = .next u ∧
      exec .ks1D { u with din := u.dout } = .next v ∧ exec .crypt1 v = .next w := by
  obtain ⟨t, ht⟩ := exec_completes .ks1E keyed
  obtain ⟨u, hu⟩ := exec_completes .crypt1 t
  obtain ⟨v, hv⟩ := exec_completes .ks1D { u with din := u.dout }
  obtain ⟨w, hw⟩ := exec_completes .crypt1 v
  exact ⟨keyed, t, u, v, w, rfl, ht, hu, hv, hw⟩

theorem witness_CollapsesTo (ks ks1 : Instr) :
    ∃ s t u t' u' : State, s.err = none ∧ (s.slot 1 = s.slot 0 ∧ s.slot 2 = s.slot 0) ∧ exec ks s = .next t ∧
      exec .crypt3 t = .next u ∧ exec ks1 s = .next t' ∧ exec .crypt1 t' = .next u' := by
  obtain ⟨t, ht⟩ := exec_completes ks (stateWithKeys exampleKey1 exampleKey1 exampleKey1)
  obtain ⟨u, hu⟩ := exec_completes .crypt3 t
  obtain ⟨t', ht'⟩ := exec_completes ks1 (stateWithKeys exampleKey1 exampleKey1 exampleKey1)
  obtain ⟨u', hu'⟩ := exec_completes .crypt1 t'
  exact ⟨_, t, u, t', u', rfl, ⟨by decide +kernel, by decide +kernel⟩, ht, hu, ht', hu'⟩

theorem witness_ThreeKeysWithEqualOuterKeys :
    ∃ s : State, s.err = none ∧ s.slot 2 = s.slot 0 :=
  ⟨stateWithKeys exampleKey1 exampleKey2 exampleKey1, rfl, by decide +kernel⟩

theorem witness_IgnoredInErrorMode : errored.err ≠ none := by decide

theorem witness_Crypt1ProcessesOneBlock :
    (∃ s t : State, s.err = none ∧ s.sklen = .single ∧ exec .crypt1 s = .next t) ∧
    (State.reset.err = none ∧ State.reset.sklen ≠ .single) ∧
    (∃ s t u : State, s.err = none ∧ s.slot 0 = exampleKey1 ∧ s.din = exampleBlock ∧ exec .ks1E s = .next t ∧
      exec .crypt1 t = .next u) := by
  refine ⟨?_, ⟨rfl, by decide⟩, ?_⟩
  · obtain ⟨t, h⟩ := exec_completes .crypt1 { State.reset with sklen := .single }
    exact ⟨_, t, rfl, rfl, h⟩
  · obtain ⟨t, ht⟩ := exec_completes .ks1E { keyed with din := exampleBlock }
    obtain ⟨u, hu⟩ := exec_completes .crypt1 t
    exact ⟨_, t, u, rfl, by decide +kernel, rfl, ht, hu⟩

theorem witness_Crypt3ProcessesOneBlock :
    (∃ s t : State, s.err = none ∧ s.sklen = .cascade ∧ exec .crypt3 s = .next t) ∧
    (State.reset.err = none ∧ State.reset.sklen ≠ .cascade) ∧
    (∃ s t u : State, s.err = none ∧ s.slot 0 = nistKey1 ∧ s.slot 1 = nistKey2 ∧ s.slot 2 = nistKey3 ∧
      s.din = #v[0x54, 0x68, 0x65, 0x20, 0x71, 0x75, 0x66, 0x63] ∧ exec .ks3E s = .next t ∧
      exec .crypt3 t = .next u) := by
  refine ⟨?_, ⟨rfl, by decide⟩, ?_⟩
  · obtain ⟨t, h⟩ := exec_completes .crypt3 { State.reset with sklen := .cascade }
    exact ⟨_, t, rfl, rfl, h⟩
  · obtain ⟨t, ht⟩ := exec_completes .ks3E { stateWithKeys nistKey1 nistKey2 nistKey3 with
      din := #v[0x54, 0x68, 0x65, 0x20, 0x71, 0x75, 0x66, 0x63] }
    obtain ⟨u, hu⟩ := exec_completes .crypt3 t
    exact ⟨_, t, u, rfl, by decide +kernel, by decide +kernel, by decide +kernel, rfl, ht, hu⟩

theorem witness_HygieneCommands (i : Instr) :
    (∃ s t : State, s.err = none ∧ s.slot 0 = #v[0x12, 0x34, 0x56, 0x78, 0x90, 0xAB, 0xCD, 0xEF] ∧ exec i s = .next t) ∧
    (∃ s : State, s.err = none ∧ s.slot 1 = #v[0xFE, 0xE0, 0xFE, 0xE0, 0xFE, 0xF1, 0xFE, 0xF1]) ∧
    (∃ s : State, s.err = none ∧ s.slot 0 = exampleKey1) := by
  refine ⟨?_, ⟨stateWithKeys exampleKey1 #v[0xFE, 0xE0, 0xFE, 0xE0, 0xFE, 0xF1, 0xFE, 0xF1] exampleKey1, rfl,
    by decide +kernel⟩, ⟨keyed, rfl, by decide +kernel⟩⟩
  obtain ⟨t, h⟩ := exec_completes i
    (stateWithKeys #v[0x12, 0x34, 0x56, 0x78, 0x90, 0xAB, 0xCD, 0xEF] exampleKey1 exampleKey1)
  exact ⟨_, t, rfl, by decide +kernel, h⟩

theorem witness_FlagIsKeptAndNotRead (i : Instr) (v : Bool) :
    (isPredicate .crypt3 = false ∧ (.crypt3 : Instr) ≠ .clr ∧ ∃ s t : State, exec .crypt3 s = .next t) ∧
    ∃ s t u : State, exec i s = .next t ∧ exec i { s with flag := v } = .next u := by
  obtain ⟨t, ht⟩ := exec_completes .crypt3 keyed
  obtain ⟨t', ht'⟩ := exec_completes i keyed
  obtain ⟨u, hu⟩ := exec_completes i { keyed with flag := v }
  exact ⟨⟨rfl, by decide, keyed, t, ht⟩, keyed, t', u, ht', hu⟩

theorem witness_ClrGivesTheResetState : ∃ s t : State, exec .clr s = .next t := ⟨errored, _, exec_clr errored⟩

theorem witness_CommandsChangeOnlyTheirState :
    ∃ (i : Instr) (s t : State), exec i s = .next t ∧ i ≠ .clr ∧ isPredicate i = false ∧ isBlock i = false ∧
      isKeySchedule i = true ∧ (∀ n, i ≠ .parset n) := by
  obtain ⟨t, h⟩ := exec_completes .ks2E keyed
  exact ⟨.ks2E, keyed, t, h, by decide, rfl, rfl, rfl, fun _ h => nomatch h⟩

theorem witness_CommandsLeaveOtherRegistersUnchanged :
    (∃ (i : Instr) (s t : State) (off : Nat), isKeySchedule i = true ∧ exec i s = .next t ∧ off = 0x580 ∧ off ≠ 0x004 ∧
      ¬ (0x200 ≤ off ∧ off ≤ 0x37C) ∧ ¬ (0x400 ≤ off ∧ off ≤ 0x57C)) ∧
    (∃ (i : Instr) (s t : State) (off : Nat), isBlock i = true ∧ exec i s = .next t ∧ off = 0x040 ∧ off ≠ 0x004 ∧
      ¬ (0x038 ≤ off ∧ off ≤ 0x03C)) ∧
    (∃ (i : Instr) (s t : State), isPredicate i = true ∧ i.wellFormed = true ∧ exec i s = .next t) ∧
    (∃ (k : Fin 3) (s t : State) (off : Nat), exec (.parset (slotBits k)) s = .next t ∧ off = 0x024 ∧
      ¬ (0x010 + 8 * k.val ≤ off ∧ off < 0x018 + 8 * k.val)) := by
  obtain ⟨t1, h1⟩ := exec_completes .ks1D keyed
  obtain ⟨t2, h2⟩ := exec_completes .crypt3 keyed
  obtain ⟨t3, h3⟩ := exec_completes (.weakchk 2) keyed
  obtain ⟨t4, h4⟩ := exec_completes (.parset (slotBits 1)) keyed
  exact ⟨⟨_, _, t1, _, rfl, h1, rfl, by decide, by decide, by decide⟩,
    ⟨_, _, t2, _, rfl, h2, rfl, by decide, by decide⟩, ⟨_, _, t3, rfl, by decide, h3⟩, ⟨1, _, t4, _, h4, rfl, by decide⟩⟩

theorem witness_StepChangesBuffersOnlyByTheirCommands :
    (∃ s t : State, step s = .next t ∧ t.sklen ≠ s.sklen) ∧
    (∃ s t : State, step s = .next t ∧ t.dout ≠ s.dout) ∧
    (∃ s t : State, step s = .next t ∧ t.flag ≠ s.flag) :=
  ⟨⟨{ State.reset with sklen := .single, pending := [.reset] }, State.reset, rfl, by decide⟩,
    ⟨{ State.reset with dout := exampleBlock, pending := [.reset] }, State.reset, rfl, by decide +kernel⟩,
    ⟨{ State.reset with flag := true, pending := [.reset] }, State.reset, rfl, by decide⟩⟩

theorem witness_BlockResultDependsOnScheduleAndInputOnly :
    ∃ (i : Instr) (s s' t t' : State), s.err = none ∧ s'.err = none ∧ s.sk = s'.sk ∧ s.sklen = s'.sklen ∧
      s.din = s'.din ∧ schedNeeded i = some s.sklen ∧ exec i s = .next t ∧ exec i s' = .next t' ∧
      s.key ≠ s'.key ∧ s.dir ≠ s'.dir := by
  obtain ⟨t, h⟩ := exec_completes .crypt3 { State.reset with sklen := .cascade }
  obtain ⟨t', h'⟩ := exec_completes .crypt3 { keyed with sklen := .cascade, dir := .dec }
  exact ⟨.crypt3, { State.reset with sklen := .cascade }, { keyed with sklen := .cascade, dir := .dec }, t, t', rfl, rfl, rfl, rfl, rfl, rfl, h, h', by decide +kernel, by decide⟩

theorem same_key_bits_zero_one : sameKeyBits (zeros 8) (Vector.replicate 8 0x01) := by
  intro i; revert i; decide +kernel

theorem witness_ScheduleDependsOnKeyBitsOnly (i : Instr) :
    ∃ s s' t t' : State, s.err = none ∧ s'.err = none ∧ sameKeyBits (s.slot 0) (s'.slot 0) ∧
      sameKeyBits (s.slot 1) (s'.slot 1) ∧ sameKeyBits (s.slot 2) (s'.slot 2) ∧ exec i s = .next t ∧
      exec i s' = .next t' ∧ s.slot 0 ≠ s'.slot 0 := by
  obtain ⟨t, h⟩ := exec_completes i State.reset
  obtain ⟨t', h'⟩ := exec_completes i
    (stateWithKeys (Vector.replicate 8 0x01) (Vector.replicate 8 0x01) (Vector.replicate 8 0x01))
  refine ⟨_, _, t, t', rfl, rfl, ?_, ?_, ?_, h, h', by decide +kernel⟩ <;>
    (intro i; revert i; decide +kernel)

theorem witness_NewKeyBytesDoNotReachTheSchedule :
    (∃ (off : Nat) (v : Word) (s t : State), off = 0x024 ∧ 0x010 ≤ off ∧ off ≤ 0x024 ∧ regWrite off v s = .next t ∧
      ∃ (i : Instr) (u u' : State), s.err = none ∧ schedNeeded i = some s.sklen ∧ exec i s = .next u ∧
        exec i t = .next u') ∧
    (∃ (n : BitVec 2) (s t : State), slotWellFormed n = true ∧ exec (.parset n) s = .next t ∧
      ∃ (i : Instr) (u u' : State), s.err = none ∧ schedNeeded i = some s.sklen ∧ exec i s = .next u ∧
        exec i t = .next u') := by
  constructor
  · obtain ⟨t, ht⟩ := writeReg_completes (regAt 0x024) 7 { keyed with sklen := .single }
    obtain ⟨u, hu⟩ := exec_completes .crypt1 { keyed with sklen := .single }
    obtain ⟨u', hu'⟩ := exec_completes .crypt1 t
    exact ⟨0x024, 7, _, t, rfl, by decide, by decide, ht, .crypt1, u, u', rfl, rfl, hu, hu'⟩
  · obtain ⟨t, ht⟩ := exec_completes (.parset 2) { keyed with sklen := .cascade }
    obtain ⟨u, hu⟩ := exec_completes .crypt3 { keyed with sklen := .cascade }
    obtain ⟨u', hu'⟩ := exec_completes .crypt3 t
    exact ⟨2, _, t, by decide, ht, .crypt3, u, u', rfl, rfl, hu, hu'⟩

/-- The offsets that read zero: the edges of every reserved range meet the clause's hypotheses, and no edge of a register
range does. -/
theorem witness_HostPrimitivesFollowTheRegisterMap :
    ([0x000, 0x008, 0x00C, 0x028, 0x02C, 0x040, 0x1FC, 0x380, 0x3FC, 0x580, 0x7FC].all fun off =>
      decide (off ≤ 0x7FC ∧ off % 4 = 0 ∧ off ≠ 0x004 ∧ ¬ (0x010 ≤ off ∧ off ≤ 0x024) ∧ ¬ (0x030 ≤ off ∧ off ≤ 0x03C) ∧
        ¬ (0x200 ≤ off ∧ off ≤ 0x37C) ∧ ¬ (0x400 ≤ off ∧ off ≤ 0x57C))) = true ∧
    ([0x004, 0x010, 0x024, 0x030, 0x034, 0x038, 0x03C, 0x200, 0x37C, 0x400, 0x57C].all fun off =>
      decide (¬ (off ≠ 0x004 ∧ ¬ (0x010 ≤ off ∧ off ≤ 0x024) ∧ ¬ (0x030 ≤ off ∧ off ≤ 0x03C) ∧
        ¬ (0x200 ≤ off ∧ off ≤ 0x37C) ∧ ¬ (0x400 ≤ off ∧ off ≤ 0x57C)))) = true ∧
    ([0x004, 0x008, 0x028, 0x038, 0x03C, 0x200, 0x57C, 0x7FC].all fun off =>
      decide (off ≤ 0x7FC ∧ off % 4 = 0 ∧ off ≠ 0x000 ∧ bufferOffset off = false)) = true := by
  decide +kernel

theorem witness_UndefinedAccessesAreRefused :
    (∃ (s : State) (r : Refusal), step s = .refused r) ∧
    (State.reset.withNext (.read 0x7FC .w32)).pending = .read 0x7FC .w32 :: [] ∧
    (State.reset.withNext (.read 0x7FE .w32)).pending = .read 0x7FE .w32 :: [] ∧
    (State.reset.withNext (.write (-4) (.u32 1))).pending = .write (-4) (.u32 1) :: [] :=
  ⟨⟨State.reset.withNext (.read 0x800 .w32), .undefinedAccess, rfl⟩, rfl, rfl, rfl⟩

theorem witness_OnlyCommandWritesHaveSideEffects :
    (∃ (s t : State) (off : Int) (w : Width) (rest : List HostEvent), s.pending = .read off w :: rest ∧
      step s = .next t) ∧
    ([0x010, 0x024, 0x030, 0x034].all fun off : Nat => inWindow off && bufferOffset off) = true ∧
    (inWindow (0x014 : Nat) = true ∧ (0x014 : Nat) ≠ 0x010) ∧
    (0x038 ≠ 0x000 ∧ bufferOffset 0x038 = false ∧ bufferOffset 0x028 = false) ∧ regAt 0x02C = .reserved ∧
    (about 0x20 State.reset).pending = .write 0x000 (.u32 0x20) :: [] :=
  ⟨⟨State.reset.withNext (.read 0 .w32), { State.reset with reads := [0] }, 0, .w32, [], rfl, rfl⟩, by decide,
    by decide, by decide, by decide, rfl⟩

theorem witness_ResetEventClearsTheBlock :
    ∃ (s : State) (rest : List HostEvent), s.pending = .reset :: rest := ⟨errored.withNext .reset, [], rfl⟩

theorem witness_EveryStepKeepsTheInvariant :
    ∃ s t : State, State.Inv s ∧ step s = .next t ∧ s.key ≠ t.key :=
  ⟨keyed.withNext .reset, State.reset,
    { scratchZero := rfl
      emptyContext := fun _ => ⟨rfl, rfl⟩
      singleContext := fun h => by cases h
      fixedZero := fun i => by simp [keyed, stateWithKeys]
      contextBuilt := rfl }, rfl, by decide +kernel⟩

theorem witness_ScheduleConsequencesHold :
    sameKeyBits (zeros 8) (Vector.replicate 8 0x01) ∧
    (∃ a : Key, ∀ i : Fin 8, a[i] = 0x00 ∨ a[i] = 0x01) ∧ (∃ a : Key, ∀ i : Fin 8, a[i] = 0xFE ∨ a[i] = 0xFF) ∧
    (∃ w, weakKeys[(3 : Fin 4).val]? = some w) ∧
    (∃ v w, weakKeys[2 * (5 : Fin 6).val + 4]? = some v ∧ weakKeys[2 * (5 : Fin 6).val + 5]? = some w) :=
  ⟨same_key_bits_zero_one, ⟨zeros 8, by decide +kernel⟩, ⟨Vector.replicate 8 0xFE, by decide +kernel⟩, ⟨_, rfl⟩,
    ⟨_, _, rfl, rfl⟩⟩

theorem witness_SubstitutionTablesWriteDisjointBits :
    (0 : Fin 8) ≠ 7 ∧ ∃ v, v ∈ (sbListed 0).toList := ⟨by decide, 0x01010400, by decide +kernel⟩

theorem witness_RoundsFollowThePublishedIteration : 0 ≤ 8 ∧ 0 < 8 ∧ 7 ≤ 8 ∧ 7 < 8 ∧ 8 ≤ 8 := by decide

theorem witness_ReversedScheduleUndoesAPass :
    ((.ks2E, .ks2D, .crypt3) : Instr × Instr × Instr) ∈
      [(.ks1E, .ks1D, .crypt1), (.ks2E, .ks2D, .crypt3), (.ks3E, .ks3D, .crypt3)] ∧ keyed.err = none :=
  ⟨by decide, rfl⟩

theorem witness_StatesOutsideErrorMode : keyed.err = none ∧ State.reset.err = none := ⟨rfl, rfl⟩

theorem witness_ParityTableAndFunctionsAgree : checkOddParity exampleKey1 = true := by decide +kernel

theorem witness_WeakCheckComparesWholeBytes :
    (∃ k : Key, (weakKeys.all fun w => (List.finRange 8).any fun i : Fin 8 => decide (k[i] ≠ w[i])) = true) ∧
    (∃ k w : Key, w ∈ weakKeys ∧ sameKeyBits k w ∧ k ≠ w) := by
  refine ⟨⟨exampleKey1, by decide +kernel⟩, zeros 8, Vector.replicate 8 0x01, ?_, same_key_bits_zero_one,
    by decide +kernel⟩
  exact List.mem_of_getElem? (i := 0) rfl

end Sys2Proof.Tests
end

section
/-! SUPPORT. The big-endian packing of spec/00_scope.md R12: its bytes, its inverse, its shift form, and the FIPS bits of
packed bytes. A word of a byte buffer (`wordAt`) is the general form; `be32`, `hiWord` and `loWord` are cases of it. -/

namespace Sys2Proof.Machine

/-! ### Packing and unpacking -/

/-- Byte `k` of word `j`, bit by bit: byte 0 is the most significant. -/
theorem getLsbD_wordAt {n : Nat} (a : Vector Byte n) (j : Nat) (h : 4 * j + 3 < n) (k i : Nat) (hk : k < 4)
    (hi : i < 8) : (wordAt a j h).getLsbD (8 * (3 - k) + i) = a[4 * j + k].getLsbD i := by
  rw [wordAt, getLsbD_be32]
  interval_cases k <;> simp (disch := omega) only [if_pos, if_neg]
  all_goals
    congr 1
    omega

/-- The bytes of `unbe32` as the fields `w[31:24]` to `w[7:0]` (R12). -/
theorem unbe32_getElem (w : Word) (k : Nat) (hk : k < 4) : (unbe32 w)[k] = w.extractLsb' (8 * (3 - k)) 8 := by
  interval_cases k <;> rfl

/-- Unpacking a word of a buffer gives the four bytes it was packed from. -/
theorem unbe32_wordAt {n : Nat} (a : Vector Byte n) (j : Nat) (h : 4 * j + 3 < n) (k : Nat) (hk : k < 4) :
    (unbe32 (wordAt a j h))[k] = a[4 * j + k] := by
  apply BitVec.eq_of_getLsbD_eq
  intro i hi
  rw [unbe32_getElem, BitVec.getLsbD_extractLsb', getLsbD_wordAt a j h k i hk hi]
  simp [hi]

theorem unbe32_be32 (b0 b1 b2 b3 : Byte) : unbe32 (be32 b0 b1 b2 b3) = #v[b0, b1, b2, b3] := by
  ext1 k hk
  exact (unbe32_wordAt #v[b0, b1, b2, b3] 0 (by omega) k hk).trans (by simp)

/-- Packing the bytes of a word gives the word. -/
theorem wordAt_unbe32 (w : Word) : wordAt (unbe32 w) 0 (by omega) = w := by
  apply BitVec.eq_of_getLsbD_eq
  intro i hi
  have hbyte := getLsbD_wordAt (unbe32 w) 0 (by omega) (3 - i / 8) (i % 8) (by omega) (by omega)
  have hpos : 8 * (3 - (3 - i / 8)) + i % 8 = i := by omega
  simpa [unbe32_getElem, hpos, Nat.mod_lt] using hbyte

theorem be32_unbe32 (w : Word) : be32 (unbe32 w)[0] (unbe32 w)[1] (unbe32 w)[2] (unbe32 w)[3] = w :=
  wordAt_unbe32 w

/-- `be32` is the shift form of R12. -/
theorem be32_eq_shifts (b0 b1 b2 b3 : Byte) : be32 b0 b1 b2 b3 =
    (b0.setWidth 32 <<< 24) ||| (b1.setWidth 32 <<< 16) ||| (b2.setWidth 32 <<< 8) ||| b3.setWidth 32 := by
  apply BitVec.eq_of_getLsbD_eq
  intro i hi
  simp only [getLsbD_be32, BitVec.getLsbD_or, BitVec.getLsbD_shiftLeft, BitVec.getLsbD_setWidth]
  -- The byte that bit `i` falls in: the shifts of the other three are zero there.
  obtain h | h | h | h : i < 8 ∨ (8 ≤ i ∧ i < 16) ∨ (16 ≤ i ∧ i < 24) ∨ 24 ≤ i := by omega
  all_goals simp (disch := omega) [if_pos, if_neg, BitVec.getLsbD_of_ge, Nat.sub_sub, decide_eq_true, decide_eq_false]

/-- An 8-byte sequence as a 64-bit value is the shift form of R12. -/
theorem toU64_eq_shifts (b : Block) : toU64 b =
    ((be32 b[0] b[1] b[2] b[3]).setWidth 64 <<< 32) ||| (be32 b[4] b[5] b[6] b[7]).setWidth 64 := by
  rw [toU64, hiWord, loWord, BitVec.append_def, BitVec.shiftLeftZeroExtend_eq, BitVec.setWidth'_eq]

/-! ### FIPS bits -/

/-- FIPS bits of a concatenation: those of the high part come first (R10). -/
theorem fbit_append {n m : Nat} (x : BitVec n) (y : BitVec m) (i : Nat) (h : i ≤ n + m) :
    fbit (x ++ y) i = if i ≤ n then fbit x i else fbit y (i - n) := by
  simp only [fbit, BitVec.getLsbD_append]
  by_cases hi : i ≤ n
  · have hpos : n + m - i - m = n - i := by omega
    rw [if_neg (by omega), if_pos hi, hpos]
  · have hpos : n + m - i = m - (i - n) := by omega
    rw [if_pos (by omega), if_neg hi, hpos]

/-- FIPS bits of a word of a buffer: bit `8k + i + 1` is bit `7 - i` of its byte `k`. -/
theorem fbit_wordAt {n : Nat} (a : Vector Byte n) (j : Nat) (h : 4 * j + 3 < n) (k i : Nat) (hk : k < 4)
    (hi : i < 8) : fbit (wordAt a j h) (8 * k + i + 1) = a[4 * j + k].getLsbD (7 - i) := by
  have hpos : 32 - (8 * k + i + 1) = 8 * (3 - k) + (7 - i) := by omega
  rw [fbit, hpos, getLsbD_wordAt a j h k (7 - i) hk (by omega)]

/-- FIPS bits of an 8-byte sequence: bit `8k + i + 1` is bit `7 - i` of byte `k` (R12, [derived]). -/
theorem fbit_toU64 (b : Block) (k i : Nat) (hk : k < 8) (hi : i < 8) :
    fbit (toU64 b) (8 * k + i + 1) = b[k].getLsbD (7 - i) := by
  have hhalves : fbit (toU64 b) (8 * k + i + 1) =
      if 8 * k + i + 1 ≤ 32 then fbit (wordAt b 0 (by omega)) (8 * k + i + 1)
      else fbit (wordAt b 1 (by omega)) (8 * k + i + 1 - 32) :=
    fbit_append (hiWord b) (loWord b) _ (by omega)
  rw [hhalves]
  by_cases hhigh : k < 4
  · rw [if_pos (by omega), fbit_wordAt b 0 _ k i hhigh hi]
    simp
  · have hlow : 8 * k + i + 1 - 32 = 8 * (k - 4) + i + 1 := by omega
    rw [if_neg (by omega), hlow, fbit_wordAt b 1 _ (k - 4) i (by omega) hi]
    congr 2
    omega

/-- Settles O35, clause by clause from the lemmas above. -/
theorem bytesPackMostSignificantFirst : Obligations.BytesPackMostSignificantFirst :=
  ⟨be32_eq_shifts, unbe32_be32, be32_unbe32, toU64_eq_shifts,
    fun b k j => fbit_toU64 b k.val j.val k.isLt j.isLt⟩

end Sys2Proof.Machine
end

section
/-! SUPPORT. The fields of `STATUS` (spec/10_state.md R33), read off one layout lemma, and the reset values (R38). -/

namespace Sys2Proof.Machine

/-! ### The fields of `STATUS` -/

/-- The layout of R33, bit by bit; above `ERR` the four-bit code has no bits left, so bits 31:8 are zero. -/
theorem State.getLsbD_status (s : State) (i : Nat) (hi : i < 32) : s.status.getLsbD i =
    if i < 1 then s.flag
    else if i < 3 then s.sklen.code.getLsbD (i - 1)
    else if i < 4 then s.dir.code.getLsbD (i - 3)
    else (errCode s.err).getLsbD (i - 4) := by
  simp only [State.status, BitVec.getLsbD_or, BitVec.getLsbD_shiftLeft, BitVec.getLsbD_setWidth]
  -- In each field the parts below it have run out and the parts above it are shifted past bit `i`.
  obtain h | h | h | h : i = 0 ∨ (1 ≤ i ∧ i < 3) ∨ i = 3 ∨ 4 ≤ i := by omega
  all_goals simp (disch := omega) [h, if_neg, BitVec.getLsbD_of_ge, decide_eq_true, decide_eq_false]

theorem State.status_flag (s : State) : s.status.getLsbD 0 = s.flag := s.getLsbD_status 0 (by omega)

/-- A field of a word is known from the bits of the word in its range. -/
theorem extractLsb'_eq_of_getLsbD {start len : Nat} {w : Word} {field : BitVec len}
    (h : ∀ i, i < len → w.getLsbD (start + i) = field.getLsbD i) : w.extractLsb' start len = field := by
  apply BitVec.eq_of_getLsbD_eq
  intro i hi
  rw [BitVec.getLsbD_extractLsb', h i hi]
  simp [hi]

@[simp] theorem State.status_sklen (s : State) : s.status.extractLsb' 1 2 = s.sklen.code :=
  extractLsb'_eq_of_getLsbD fun i hi => by
    simp (disch := omega) only [State.getLsbD_status, if_neg, if_pos, Nat.add_sub_cancel_left]

@[simp] theorem State.status_dir (s : State) : s.status.extractLsb' 3 1 = s.dir.code :=
  extractLsb'_eq_of_getLsbD fun i hi => by
    simp (disch := omega) only [State.getLsbD_status, if_neg, if_pos, Nat.add_sub_cancel_left]

@[simp] theorem State.status_err (s : State) : s.status.extractLsb' 4 4 = errCode s.err :=
  extractLsb'_eq_of_getLsbD fun i hi => by
    simp (disch := omega) only [State.getLsbD_status, if_neg, Nat.add_sub_cancel_left]

/-- Bits 31:8 lie past the four bits of the code of `ERR`. -/
@[simp] theorem State.status_reserved (s : State) : s.status.extractLsb' 8 24 = 0 :=
  extractLsb'_eq_of_getLsbD fun i hi => by
    simp (disch := omega) only [State.getLsbD_status, if_neg, BitVec.getLsbD_of_ge, BitVec.ofNat_eq_ofNat,
      BitVec.getLsbD_zero]

/-! ### `STATUS` in the window, and its reset value -/

theorem regRead_status (s : State) : regRead s 0x004 = s.status := rfl

/-- `STATUS` is read-only (R33). -/
theorem regWrite_status (v : Word) (s : State) : regWrite 0x004 v s = .next s := rfl

/-- Every field that `STATUS` shows has the code 0 at reset (R38). -/
@[simp] theorem State.reset_status : State.reset.status = 0 := by
  simp [State.status, SchedLen.code, Dir.code, errCode]

/-- Settles O34: the fields one by one from the layout, then the two accesses and the reset value. -/
theorem statusShowsItsFields : Obligations.StatusShowsItsFields := fun s =>
  ⟨s.status_flag, s.status_sklen, s.status_dir, s.status_err, s.status_reserved, regRead_status s,
    fun v => regWrite_status v s, State.reset_status⟩

/-- Settles O36: each element of each buffer is an element of `zeros`, and `STATUS` is that of the reset state. -/
theorem resetStateIsAllZero : Obligations.ResetStateIsAllZero := by
  refine ⟨rfl, rfl, ?_, ?_, ?_, ?_, ?_, State.reset_flag, State.reset_err,
    (regRead_status _).trans State.reset_status⟩
  all_goals exact fun i => zeros_getElem i.val i.isLt

end Sys2Proof.Machine
end

section
/-! SUPPORT. The register window (spec/20_memory.md R50 to R56): the register map both ways, the words of a byte buffer
under a word write, and what a read or a write of each register does. The obligations of the window are settled from
these at the end. -/

namespace Sys2Proof.Machine

/-! ### Words of a byte buffer -/

/-- The word written reads back (R52). -/
theorem wordAt_setWordAt_same {n : Nat} (a : Vector Byte n) (j : Nat) (v : Word) (h : 4 * j + 3 < n) :
    wordAt (setWordAt a j v) j h = v := by
  have hmul : 4 * j / 4 = j := by omega
  have hdiv : ∀ k < 4, (4 * j + k) / 4 = j := by omega
  simpa [wordAt, hmul, hdiv, Nat.mul_add_mod] using be32_unbe32 v

/-- A word write leaves every other word alone (R52). -/
theorem wordAt_setWordAt_other {n : Nat} (a : Vector Byte n) {i j : Nat} (v : Word) (h : 4 * i + 3 < n) (hne : i ≠ j) :
    wordAt (setWordAt a j v) i h = wordAt a i h := by
  have hmul : 4 * i / 4 = i := by omega
  have hdiv : ∀ k < 4, (4 * i + k) / 4 = i := by omega
  simp [wordAt, hmul, hdiv, hne]

/-- Of two writes of one word the second counts, so a repeated write is idempotent (R56). -/
@[simp] theorem setWordAt_setWordAt {n : Nat} (a : Vector Byte n) (j : Nat) (v w : Word) :
    setWordAt (setWordAt a j v) j w = setWordAt a j w := by
  ext1 i hi
  by_cases hij : i / 4 = j <;> simp [hij]

/-! ### The register map -/

/-- The offset of a register as the table of R51 lists it; the reserved offsets are no register's own. -/
def Reg.offset : Reg → Option Nat
  | .cmd => some 0x000
  | .status => some 0x004
  | .keyw j => some (0x010 + 4 * j.val)
  | .dinw j => some (0x030 + 4 * j.val)
  | .doutw j => some (0x038 + 4 * j.val)
  | .skw i => some (0x200 + 4 * i.val)
  | .scrw i => some (0x400 + 4 * i.val)
  | .reserved => none

/-- The writable buffer registers, `KEYW` and `DINW` (R51). -/
def Reg.isBuffer : Reg → Bool
  | .keyw _ | .dinw _ => true
  | .cmd | .status | .doutw _ | .skw _ | .scrw _ | .reserved => false

/-- The map finds each register at its offset. -/
theorem regAt_of_offset {r : Reg} {off : Nat} (h : r.offset = some off) : regAt off = r := by
  cases r
  case reserved => cases h
  all_goals
    injection h with h
    subst h
    simp (disch := omega) [regAt, if_neg, dif_pos, dif_neg]

/-- An aligned offset that is not reserved is the offset of its register. -/
theorem offset_regAt {off : Nat} (ha : off % 4 = 0) (hr : regAt off ≠ .reserved) : (regAt off).offset = some off := by
  revert hr
  unfold regAt
  split_ifs <;> simp [Reg.offset] <;> omega

/-- Two aligned offsets name the same register only where both are reserved. -/
theorem regAt_injective {off off' : Nat} (ha : off % 4 = 0) (ha' : off' % 4 = 0) (hr : regAt off ≠ .reserved)
    (h : regAt off' = regAt off) : off' = off := by
  have hoff := offset_regAt ha hr
  have hoff' := offset_regAt ha' (h ▸ hr)
  rw [h, hoff] at hoff'
  exact (Option.some.inj hoff').symm

theorem bufferOffset_eq_isBuffer (off : Nat) : bufferOffset off = (regAt off).isBuffer := by
  unfold regAt
  split_ifs <;> simp [bufferOffset, Reg.isBuffer] <;> omega

/-- The offsets between the registers are reserved (R51). -/
theorem regAt_reserved {off : Nat} (ha : off % 4 = 0) (hcmd : off ≠ 0x000) (hstatus : off ≠ 0x004)
    (hkey : ¬ (0x010 ≤ off ∧ off ≤ 0x024)) (hblk : ¬ (0x030 ≤ off ∧ off ≤ 0x03C))
    (hsk : ¬ (0x200 ≤ off ∧ off ≤ 0x37C)) (hscr : ¬ (0x400 ≤ off ∧ off ≤ 0x57C)) : regAt off = .reserved := by
  simp (disch := omega) only [regAt, if_neg, dif_neg]

theorem regAt_eq_cmd_iff (off : Nat) : regAt off = .cmd ↔ off = 0x000 := by
  unfold regAt
  split_ifs <;> simp_all

/-! ### Reads and writes of a register -/

/-- A read of a register at its offset. -/
theorem regRead_of_offset {r : Reg} {off : Nat} (s : State) (h : r.offset = some off) :
    regRead s off = readReg s r := by
  rw [regRead, regAt_of_offset h]

/-- A write of a register at its offset. -/
theorem regWrite_of_offset {r : Reg} {off : Nat} (v : Word) (s : State) (h : r.offset = some off) :
    regWrite off v s = writeReg r v s := by
  rw [regWrite, regAt_of_offset h]

theorem regRead_cmd (s : State) : regRead s 0x000 = 0 := rfl

theorem regRead_reserved {off : Nat} (s : State) (h : regAt off = .reserved) : regRead s off = 0 := by
  rw [regRead, h, readReg]

/-- Every register but `CMD` and the buffers ignores a write (R52). -/
theorem writeReg_of_not_buffer {r : Reg} (v : Word) (s : State) (hcmd : r ≠ .cmd) (hbuf : r.isBuffer = false) :
    writeReg r v s = .next s := by
  cases r
  case cmd => exact absurd rfl hcmd
  case keyw | dinw => cases hbuf
  all_goals rfl

theorem regWrite_of_not_buffer {off : Nat} (v : Word) (s : State) (hcmd : off ≠ 0x000)
    (hbuf : bufferOffset off = false) : regWrite off v s = .next s :=
  writeReg_of_not_buffer v s (mt (regAt_eq_cmd_iff off).mp hcmd) (bufferOffset_eq_isBuffer off ▸ hbuf)

/-- A write of one word of `KEY` is seen through no other register. -/
theorem readReg_setKey_other {r : Reg} {j : Fin 6} (v : Word) (s : State) (hne : r ≠ .keyw j) :
    readReg (s.setKey (setWordAt s.key j.val v)) r = readReg s r := by
  cases r
  case keyw i =>
    simp only [readReg, State.setKey_key]
    exact wordAt_setWordAt_other s.key v _ fun h => hne (congrArg Reg.keyw (Fin.ext h))
  all_goals simp [readReg, State.status]

/-- A write of one word of `DIN` is seen through no other register. -/
theorem readReg_setDin_other {r : Reg} {j : Fin 2} (v : Word) (s : State) (hne : r ≠ .dinw j) :
    readReg (s.setDin (setWordAt s.din j.val v)) r = readReg s r := by
  cases r
  case dinw i =>
    simp only [readReg, State.setDin_din]
    exact wordAt_setWordAt_other s.din v _ fun h => hne (congrArg Reg.dinw (Fin.ext h))
  all_goals simp [readReg, State.status]

/-- All that a write of a buffer register does: the word reads back, the same write again changes nothing more, and no
other register is touched (R56). -/
theorem writeReg_buffer {r : Reg} (v : Word) (s : State) (hbuf : r.isBuffer = true) :
    ∃ t, writeReg r v s = .next t ∧ readReg t r = v ∧ writeReg r v t = .next t ∧
      ∀ r', r' ≠ r → readReg t r' = readReg s r' := by
  cases r
  case keyw j =>
    refine ⟨_, rfl, wordAt_setWordAt_same s.key j.val v _, ?_, fun _ => readReg_setKey_other v s⟩
    simp [writeReg, State.setKey]
  case dinw j =>
    refine ⟨_, rfl, wordAt_setWordAt_same s.din j.val v _, ?_, fun _ => readReg_setDin_other v s⟩
    simp [writeReg, State.setDin]
  all_goals cases hbuf

/-! ### Host accesses -/

theorem inWindow_natCast (off : Nat) : inWindow (off : Int) = true ↔ off ≤ 0x7FC ∧ off % 4 = 0 := by
  rw [inWindow_iff]
  omega

theorem memRead_base (off : Nat) (w : Width) : memRead (Config.base + off) w = .read off w := by
  simp [memRead]

theorem memWrite_base (off : Nat) (d : BusData) : memWrite (Config.base + off) d = .write off d := by
  simp [memWrite]

/-- The next event is performed with what was pending before it still pending. -/
theorem step_withNext (e : HostEvent) (s : State) : step (s.withNext e) = perform e s :=
  step_event (State.withNext_pending e s)

theorem hostRead_of_defined {off : Int} (s : State) (h : inWindow off = true) :
    hostRead off .w32 s = .next { s with reads := s.reads ++ [regRead s off.toNat] } :=
  if_pos ⟨rfl, h⟩

theorem hostWrite_of_defined {off : Int} (v : Word) (s : State) (h : inWindow off = true) :
    hostWrite off (.u32 v) s = regWrite off.toNat v s :=
  if_pos h

/-- Which reads are refused, and with which reason (R54). -/
theorem hostRead_eq_refused_iff (off : Int) (w : Width) (s : State) (r : Refusal) :
    hostRead off w s = .refused r ↔ r = .undefinedAccess ∧ ¬ (w = .w32 ∧ inWindow off = true) := by
  by_cases h : w = .w32 ∧ inWindow off = true
  · simp [hostRead, h]
  · rw [hostRead, if_neg h, Host.Outcome.refused.injEq, eq_comm, and_iff_left h]

theorem regWrite_ne_refused (off : Nat) (v : Word) (s : State) (r : Refusal) : regWrite off v s ≠ .refused r := by
  obtain ⟨t, ht⟩ := writeReg_completes (regAt off) v s
  simp [regWrite, ht]

/-- Which writes are refused, and with which reason (R54). -/
theorem hostWrite_eq_refused_iff (off : Int) (d : BusData) (s : State) (r : Refusal) :
    hostWrite off d s = .refused r ↔ r = .undefinedAccess ∧ ¬ ((∃ v, d = .u32 v) ∧ inWindow off = true) := by
  cases d
  case u32 v =>
    by_cases h : inWindow off = true
    · simp [hostWrite, h, regWrite_ne_refused]
    · rw [hostWrite, if_neg h, Host.Outcome.refused.injEq, eq_comm, and_iff_left fun hc => h hc.2]
  all_goals
    rw [hostWrite, Host.Outcome.refused.injEq, eq_comm, and_iff_left (by simp)]

/-- A step is refused only for a host access that has no meaning. -/
theorem step_refused {s : State} {r : Refusal} (h : step s = .refused r) : r = .undefinedAccess := by
  cases hp : s.pending with
  | nil => rw [step_idle hp] at h; cases h
  | cons e rest =>
    rw [step_event hp] at h
    cases e with
    | read off w => exact ((hostRead_eq_refused_iff _ _ _ _).mp h).1
    | write off d => exact ((hostWrite_eq_refused_iff _ _ _ _).mp h).1
    | reset => cases h

/-! ### The obligations of the window -/

/-- Settles O31: the accesses by bus address from the event performed, then the register map row by row. -/
theorem hostPrimitivesFollowTheRegisterMap : Obligations.HostPrimitivesFollowTheRegisterMap := by
  refine ⟨?_, ?_, regRead_status, ?_, ?_, ?_, ?_, ?_, ?_, fun s v => regWrite_cmd v s, ?_, ?_, ?_⟩
  · intro s off hmax ha
    rw [memRead_base, step_withNext]
    exact hostRead_of_defined s ((inWindow_natCast off).mpr ⟨hmax, ha⟩)
  · intro s off v hmax ha
    rw [memWrite_base, step_withNext]
    exact hostWrite_of_defined v s ((inWindow_natCast off).mpr ⟨hmax, ha⟩)
  · exact fun s j => regRead_of_offset (r := .keyw j) s rfl
  · exact fun s j => regRead_of_offset (r := .dinw j) s rfl
  · exact fun s j => regRead_of_offset (r := .doutw j) s rfl
  · exact fun s i => regRead_of_offset (r := .skw i) s rfl
  · exact fun s i => regRead_of_offset (r := .scrw i) s rfl
  · intro s off _ ha hstatus hkey hblk hsk hscr
    by_cases hcmd : off = 0x000
    · rw [hcmd, regRead_cmd]
    · exact regRead_reserved s (regAt_reserved ha hcmd hstatus hkey hblk hsk hscr)
  · exact fun s j v => ⟨_, regWrite_of_offset (r := .keyw j) v s rfl, rfl,
      fun i => setWordAt_getElem s.key j.val v i.val i.isLt⟩
  · exact fun s j v => ⟨_, regWrite_of_offset (r := .dinw j) v s rfl, rfl,
      fun i => setWordAt_getElem s.din j.val v i.val i.isLt⟩
  · exact fun s off v _ _ hcmd hbuf => regWrite_of_not_buffer v s hcmd hbuf

/-- Settles O32: a step on a pending access is that access, and the two host primitives say which they refuse. -/
theorem undefinedAccessesAreRefused : Obligations.UndefinedAccessesAreRefused := by
  refine ⟨fun s r => step_refused, ?_, ?_⟩
  · intro s off w rest hp
    rw [step_event hp, perform, hostRead_eq_refused_iff, inWindow_iff]
    exact and_iff_right rfl
  · intro s off d rest hp
    rw [step_event hp, perform, hostWrite_eq_refused_iff, inWindow_iff]
    exact and_iff_right rfl

/-- A step on a pending read leaves the block as it was. -/
theorem step_read_sameBlock {s t : State} {off : Int} {w : Width} {rest : List HostEvent}
    (hp : s.pending = .read off w :: rest) (h : step s = .next t) : SameBlock s t := by
  obtain ⟨hnil, -⟩ | ⟨e, rest', hp', hread | ⟨off', v, rfl, -⟩ | ⟨rfl, -⟩⟩ := step_cases h
  · rw [hp] at hnil; cases hnil
  · obtain ⟨-, -, -, rfl⟩ := hread
    rfl
  · rw [hp] at hp'; cases hp'
  · rw [hp] at hp'; cases hp'

/-- A write of a buffer register by its offset: it reads back, is idempotent, and no other offset of the window shows
it (R56). -/
theorem regWrite_buffer {off : Nat} (v : Word) (s : State) (hwin : inWindow off = true)
    (hbuf : bufferOffset off = true) :
    ∃ t, regWrite off v s = .next t ∧ regRead t off = v ∧ regWrite off v t = .next t ∧
      ∀ off' : Nat, inWindow off' = true → off' ≠ off → regRead t off' = regRead s off' := by
  rw [bufferOffset_eq_isBuffer] at hbuf
  obtain ⟨t, hwrite, hback, hagain, hother⟩ := writeReg_buffer v s hbuf
  refine ⟨t, hwrite, hback, hagain, fun off' hwin' hne => hother _ fun hsame => hne ?_⟩
  have hr : regAt off ≠ .reserved := fun h => by rw [h] at hbuf; cases hbuf
  exact regAt_injective ((inWindow_natCast off).mp hwin).2 ((inWindow_natCast off').mp hwin').2 hr hsame

/-- Settles O33: the side effects of each access, from the lemmas on the registers. -/
theorem onlyCommandWritesHaveSideEffects : Obligations.OnlyCommandWritesHaveSideEffects := by
  refine ⟨fun s t off w rest => step_read_sameBlock, fun s off v => regWrite_buffer v s,
    fun s off v => regWrite_of_not_buffer v s, regRead_cmd, fun s off => regRead_reserved s, ?_⟩
  intro s w rest hp
  exact (step_event hp).trans (hostWrite_of_defined (off := 0x000) w _ rfl)

end Sys2Proof.Machine
end

section
/-! SUPPORT. The command words (spec/30_encoding.md R70, R77, R78) and the order of the tests of `Execute` (R82). A word
is its 24 high bits and its code byte, so what is said of all words is checked on the 256 code bytes. The obligations of
the encoding are settled from these at the end. -/

namespace Sys2Proof.Machine

/-! ### A word and its code byte -/

theorem mustBeZero_append_codeByte (w : Word) : mustBeZero w ++ codeByte w = w :=
  have hbits : 8 = 0 + 8 := rfl
  (BitVec.extractLsb'_append_extractLsb'_eq_extractLsb' hbits).trans BitVec.extractLsb'_eq_self

/-- A word is reserved by its high bits or is a code byte zero-extended (R70). -/
theorem mustBeZero_ne_or_eq_commandWord (w : Word) : mustBeZero w ≠ 0#24 ∨ ∃ c, w = commandWord c := by
  by_cases h : mustBeZero w = 0#24
  · exact .inr ⟨codeByte w, by rw [commandWord, ← h, mustBeZero_append_codeByte]⟩
  · exact .inl h

theorem decode_of_mustBeZero_ne {w : Word} (h : mustBeZero w ≠ 0#24) : decode w = none := if_pos h

theorem reservedWord_of_mustBeZero_ne {w : Word} (h : mustBeZero w ≠ 0#24) : reservedWord w = true := by
  have hshift : w >>> 8 ≠ 0 := fun h0 => h <| by
    rw [mustBeZero, ← BitVec.setWidth_ushiftRight_eq_extractLsb, h0, BitVec.ofNat_eq_ofNat, BitVec.setWidth_zero]
  simp only [reservedWord, bne_iff_ne.mpr hshift, Bool.true_or]

/-! ### The tables of R77 and R78 against the decoder -/

theorem decode_of_mem_definedCommands : ∀ p ∈ definedCommands, decode p.1 = some p.2 := by decide

theorem wellFormed_of_mem_definedCommands : ∀ p ∈ definedCommands, p.2.wellFormed = true := by decide

theorem mem_definedCommands_of_decode_commandWord :
    ∀ c : Byte, ∀ i ∈ decode (commandWord c), (commandWord c, i) ∈ definedCommands := by decide +kernel

theorem decode_commandWord_eq_none_iff :
    ∀ c : Byte, decode (commandWord c) = none ↔ reservedWord (commandWord c) = true := by decide +kernel

theorem decode_eq_some_iff (w : Word) (i : Instr) : decode w = some i ↔ (w, i) ∈ definedCommands := by
  refine ⟨fun h => ?_, decode_of_mem_definedCommands (w, i)⟩
  obtain hw | ⟨c, rfl⟩ := mustBeZero_ne_or_eq_commandWord w
  · rw [decode_of_mustBeZero_ne hw] at h; cases h
  · exact mem_definedCommands_of_decode_commandWord c i h

theorem decode_eq_none_iff (w : Word) : decode w = none ↔ reservedWord w = true := by
  obtain hw | ⟨c, rfl⟩ := mustBeZero_ne_or_eq_commandWord w
  · exact iff_of_true (decode_of_mustBeZero_ne hw) (reservedWord_of_mustBeZero_ne hw)
  · exact decode_commandWord_eq_none_iff c

/-- A decoded command's slot number is not the reserved one (R75). -/
theorem wellFormed_of_decode {w : Word} {i : Instr} (h : decode w = some i) : i.wellFormed = true :=
  wellFormed_of_mem_definedCommands (w, i) ((decode_eq_some_iff w i).mp h)

/-! ### `Execute` by what the word decodes to -/

theorem execute_of_decode {w : Word} {i : Instr} (s : State) (h : decode w = some i) : execute w s = exec i s := by
  rw [execute, h]

theorem execute_of_reserved {w : Word} (s : State) (h : decode w = none) :
    execute w s = inNormalMode s (State.raise .illegalCommand) := by
  rw [execute, h, execReserved]

/-- In error mode every word but that of `CLR` is ignored, the reserved ones included (R207). -/
theorem execute_of_error {w : Word} {s : State} (herr : s.err ≠ none) (h : decode w ≠ some .clr) :
    execute w s = .next s := by
  cases hd : decode w with
  | none => rw [execute_of_reserved s hd, inNormalMode_of_error _ herr]
  | some i => rw [execute_of_decode s hd, exec_of_error (fun hi => h (hi ▸ hd)) herr]

/-! ### Outside error mode a defined command raises an error only by its length precondition -/

/-- A block command that meets another schedule length (R202). -/
theorem exec_of_sklen_ne {i : Instr} {n : SchedLen} {s : State} (herr : s.err = none) (hi : schedNeeded i = some n)
    (hlen : s.sklen ≠ n) : exec i s = .next (s.raise .invalidLength) := by
  cases i
  case crypt1 =>
    cases hi
    rw [exec_crypt1, inNormalMode_of_normal _ herr, cryptWith_of_ne _ hlen]
  case crypt3 =>
    cases hi
    rw [exec_crypt3, inNormalMode_of_normal _ herr, cryptWith_of_ne _ hlen]
  all_goals cases hi

theorem inNormalMode_err {s : State} {op : State → State} (herr : s.err = none) (hop : (op s).err = s.err) :
    ∃ t, inNormalMode s op = .next t ∧ t.err = none :=
  ⟨_, inNormalMode_of_normal op herr, hop.trans herr⟩

theorem cryptWith_err {len : SchedLen} (f : State → Block) {s : State} (h : s.sklen = len) :
    (cryptWith len f s).err = s.err := by
  rw [cryptWith_of_len f h, State.setDout_err]

/-- On a slot that exists the operation alone decides what becomes of `ERR`. -/
theorem onSlot_err {n : BitVec 2} {op : Fin 3 → State → State} (s : State) (hn : slotWellFormed n = true)
    (hop : ∀ k, (op k s).err = s.err) : (onSlot n op s).err = s.err := by
  obtain ⟨k, rfl⟩ := wellFormed_slot n hn
  rw [onSlot_slotBits, hop]

/-- A well-formed command whose length precondition holds completes with no error (R82). -/
theorem exec_err_eq_none {i : Instr} {s : State} (hi : i.wellFormed = true) (herr : s.err = none)
    (hlen : ∀ n, schedNeeded i = some n → s.sklen = n) : ∃ t, exec i s = .next t ∧ t.err = none := by
  cases i with
  | clr => exact ⟨_, exec_clr s, State.clear_err s⟩
  | ks1E | ks2E | ks3E | ks1D | ks2D | ks3D =>
    simp only [exec_ks1E, exec_ks2E, exec_ks3E, exec_ks1D, exec_ks2D, exec_ks3D]
    exact inNormalMode_err herr (State.setContext_err ..)
  | crypt1 | crypt3 => exact inNormalMode_err herr (cryptWith_err _ (hlen _ rfl))
  | parset n => exact inNormalMode_err herr (onSlot_err s hi fun k => State.setSlot_err k _ s)
  | parchk n | weakchk n => exact inNormalMode_err herr (onSlot_err s hi fun k => State.setFlag_err _ s)

/-! ### The obligations of the encoding -/

/-- Settles O1: the rows from the decoder one way, the 256 code bytes the other. -/
theorem decodeAcceptsExactlyTheTable : Obligations.DecodeAcceptsExactlyTheTable := decode_eq_some_iff

/-- Settles O2: a reserved word decodes to nothing, and outside error mode its one effect is the error it raises. -/
theorem reservedWordsRaiseIllegalCommand : Obligations.ReservedWordsRaiseIllegalCommand := by
  refine ⟨decode_eq_none_iff, fun w s hw herr => ?_, rfl⟩
  rw [execute_of_reserved s ((decode_eq_none_iff w).mpr hw), inNormalMode_of_normal _ herr, State.raise]

/-- Settles O6: one clause for each place in the order of the tests. -/
theorem executeTestsInFixedOrder : Obligations.ExecuteTestsInFixedOrder := by
  intro w s
  refine ⟨fun _ hclr => ?_, execute_of_error, fun herr hres => ?_, fun i n herr hdec hi hlen => ?_,
    fun i herr hdec hlen => ?_⟩
  · rw [execute_of_decode s hclr, exec_clr, State.clear_eq_reset]
  · rw [execute_of_reserved s hres, inNormalMode_of_normal _ herr, State.raise]
  · rw [execute_of_decode s hdec, exec_of_sklen_ne herr hi hlen, State.raise]
  · obtain ⟨t, hexec, ht⟩ := exec_err_eq_none (wellFormed_of_decode hdec) herr hlen
    exact ⟨t, (execute_of_decode s hdec).trans hexec, hexec, ht⟩

end Sys2Proof.Machine
end

section
/-! SUPPORT. The key schedule of one key (spec/41_key_schedule.md R112 to R120). PC1 and PC2 in word form only move
bits: they carry OR to OR, and so do the published tables, so that the two forms agree once they agree on every single
bit. Each obligation of the schedule is settled where its lemmas stand. -/

namespace Sys2Proof.Machine

/-! ### Functions that carry OR to OR

The word forms join fields with OR, so `eq_of_xor_linear` would want a proof for each join that its fields are
disjoint. -/

/-- The function carries OR to OR. -/
@[fun_prop]
def OrHom {n m : Nat} (f : BitVec n → BitVec m) : Prop := ∀ a b, f (a ||| b) = f a ||| f b

namespace OrHom

variable {l m n : Nat} {f g : BitVec n → BitVec m}

@[fun_prop]
theorem id : OrHom fun x : BitVec n => x := fun _ _ => rfl

@[fun_prop]
theorem const (c : BitVec m) : OrHom fun _ : BitVec n => c := fun _ _ => BitVec.or_self.symm

@[fun_prop]
theorem comp {h : BitVec l → BitVec n} (hf : OrHom f) (hh : OrHom h) : OrHom fun x => f (h x) := fun a b => by
  simp only [hh a b, hf (h a) (h b)]

@[fun_prop]
theorem or (hf : OrHom f) (hg : OrHom g) : OrHom fun x => f x ||| g x := fun a b => by
  simp only [hf a b, hg a b]
  ac_rfl

@[fun_prop]
theorem and_const (hf : OrHom f) (c : BitVec m) : OrHom fun x => f x &&& c := fun a b => by
  simp only [hf a b, BitVec.and_or_distrib_right]

@[fun_prop]
theorem shiftLeft (hf : OrHom f) (k : Nat) : OrHom fun x => f x <<< k := fun a b => by
  simp only [hf a b, BitVec.shiftLeft_or_distrib]

@[fun_prop]
theorem ushiftRight (hf : OrHom f) (k : Nat) : OrHom fun x => f x >>> k := fun a b => by
  simp only [hf a b, BitVec.ushiftRight_or_distrib]

@[fun_prop]
theorem setWidth (hf : OrHom f) (k : Nat) : OrHom fun x => (f x).setWidth k := fun a b => by
  simp only [hf a b, BitVec.setWidth_or]

@[fun_prop]
theorem extractLsb' (hf : OrHom f) (start len : Nat) : OrHom fun x => (f x).extractLsb' start len := fun a b => by
  simp only [hf a b, BitVec.extractLsb'_or]

@[fun_prop]
theorem perm (t : Vector Nat m) : OrHom fun x : BitVec n => (perm x t : BitVec m) := fun a b => by
  apply BitVec.eq_of_getLsbD_eq
  intro i hi
  simp only [getLsbD_perm _ _ _ hi, BitVec.getLsbD_or]

@[fun_prop]
theorem deltaSwap_fst {f g : BitVec n → Word} (hf : OrHom f) (hg : OrHom g) (k : Nat) (mask : Word) :
    OrHom fun x => (deltaSwap k mask (f x) (g x)).1 := fun a b => by
  apply BitVec.eq_of_getLsbD_eq
  intro i hi
  simp only [hf a b, hg a b, BitVec.getLsbD_or, deltaSwap_fst_getLsbD _ _ _ _ i hi]
  split <;> rfl

@[fun_prop]
theorem deltaSwap_snd {f g : BitVec n → Word} (hf : OrHom f) (hg : OrHom g) (k : Nat) (mask : Word) :
    OrHom fun x => (deltaSwap k mask (f x) (g x)).2 := fun a b => by
  apply BitVec.eq_of_getLsbD_eq
  intro i hi
  simp only [hf a b, hg a b, BitVec.getLsbD_or, deltaSwap_snd_getLsbD]
  split <;> rfl

@[fun_prop]
theorem lookup4_lhs : OrHom (lookup4 lhs) := by unfold OrHom; decide +kernel

@[fun_prop]
theorem lookup4_rhs : OrHom (lookup4 rhs) := by unfold OrHom; decide +kernel

/-- Two such functions that agree at zero and on the single bits agree everywhere. -/
theorem eq_of_twoPow (hf : OrHom f) (hg : OrHom g) (hzero : f 0#n = g 0#n)
    (hbit : ∀ i : Fin n, f (BitVec.twoPow n i.val) = g (BitVec.twoPow n i.val)) (x : BitVec n) : f x = g x := by
  have hlow : ∀ k ≤ n, f ((x.setWidth k).setWidth n) = g ((x.setWidth k).setWidth n) := by
    intro k hk
    induction k with
    | zero => rwa [BitVec.of_length_zero (x := x.setWidth 0), BitVec.setWidth_zero]
    | succ k ih =>
      cases hb : x.getLsbD k with
      | false => rw [BitVec.setWidth_setWidth_succ_eq_setWidth_setWidth_of_getLsbD_false hb, ih (by omega)]
      | true =>
        rw [BitVec.setWidth_setWidth_succ_eq_setWidth_setWidth_or_twoPow_of_getLsbD_true hb, hf, hg, ih (by omega),
          hbit ⟨k, hk⟩]
  simpa using hlow n le_rfl

end OrHom

/-! ### Permuted Choice 1 (R112, R114) -/

/-- The two halves of a 64-bit value (R12). -/
def halvesOf (v : U64) : Halves := ⟨v.extractLsb' 32 32, v.extractLsb' 0 32⟩

theorem halvesOf_append (x y : Word) : halvesOf (x ++ y) = ⟨x, y⟩ :=
  congrArg₂ Halves.mk BitVec.extractLsb'_append_eq_left BitVec.extractLsb'_append_eq_right

theorem orHom_pc1_c : OrHom fun v : U64 => (pc1 (halvesOf v)).c := by
  simp only [pc1, halvesOf]
  fun_prop

theorem orHom_pc1_d : OrHom fun v : U64 => (pc1 (halvesOf v)).d := by
  simp only [pc1, halvesOf]
  fun_prop

theorem orHom_fipsPC1_c : OrHom fun v : U64 => (fipsPC1 v).c := by
  simp only [fipsPC1]
  fun_prop

theorem orHom_fipsPC1_d : OrHom fun v : U64 => (fipsPC1 v).d := by
  simp only [fipsPC1]
  fun_prop

theorem pc1_zero : pc1 (halvesOf 0#64) = fipsPC1 0#64 := by decide +kernel

theorem pc1_twoPow : ∀ i : Fin 64, pc1 (halvesOf (BitVec.twoPow 64 i.val)) = fipsPC1 (BitVec.twoPow 64 i.val) := by
  decide +kernel

/-- PC1 in word form is PC1 in FIPS form (R114). -/
theorem pc1_eq_fipsPC1 (h : Halves) : pc1 h = fipsPC1 (h.left ++ h.right) := by
  have hc := orHom_pc1_c.eq_of_twoPow orHom_fipsPC1_c (congrArg KeyRegs.c pc1_zero)
    (fun i => congrArg KeyRegs.c (pc1_twoPow i)) (h.left ++ h.right)
  have hd := orHom_pc1_d.eq_of_twoPow orHom_fipsPC1_d (congrArg KeyRegs.d pc1_zero)
    (fun i => congrArg KeyRegs.d (pc1_twoPow i)) (h.left ++ h.right)
  rw [halvesOf_append] at hc hd
  exact congrArg₂ KeyRegs.mk hc hd

/-- The key registers a key loads are the published ones (R111, R114). -/
theorem loadKeyRegs_eq_fipsPC1 (key : Key) : loadKeyRegs key = fipsPC1 (toU64 key) := pc1_eq_fipsPC1 _

/-- Settles O40: the two forms from their bits, the parity bits from the table. -/
theorem pc1IsThePublishedPermutedChoice1 : Obligations.Pc1IsThePublishedPermutedChoice1 :=
  ⟨fun x y => pc1_eq_fipsPC1 ⟨x, y⟩, tablePC1_no_parity⟩

/-! ### Rotations (R115) -/

/-- Bit `i` of a rotated register comes from `n` places below, counted round the register. -/
theorem getLsbD_rol28 (a : U28) (n i : Nat) (hi : i < 28) :
    (rol28 a n).getLsbD i = a.getLsbD ((i + (28 - n % 28)) % 28) := by
  rw [rol28, BitVec.getLsbD_rotateLeft]
  by_cases hwrap : i < n % 28
  · have hpos : 28 - n % 28 + i = (i + (28 - n % 28)) % 28 := by omega
    simp only [hwrap, decide_true, cond_true, hpos]
  · have hpos : i - n % 28 = (i + (28 - n % 28)) % 28 := by omega
    simp only [hwrap, hi, decide_true, decide_false, cond_false, Bool.true_and, hpos]

theorem rol28_rol28 (a : U28) (m n : Nat) : rol28 (rol28 a m) n = rol28 a (m + n) := by
  apply BitVec.eq_of_getLsbD_eq
  intro i hi
  rw [getLsbD_rol28 _ _ _ hi, getLsbD_rol28 _ _ _ (Nat.mod_lt _ (by omega)), getLsbD_rol28 _ _ _ hi]
  congr 1
  omega

/-- A rotation by a multiple of the width does nothing. -/
theorem rol28_eq_self (a : U28) {n : Nat} (hn : n % 28 = 0) : rol28 a n = a := by
  apply BitVec.eq_of_getLsbD_eq
  intro i hi
  rw [getLsbD_rol28 _ _ _ hi, hn]
  congr 1
  omega

/-- The rotations accumulate: after `n` of them the registers are rotated by the sum of the counts. -/
theorem regsAfter_eq_rotateRegs (r : KeyRegs) (n : Nat) :
    regsAfter r n = rotateRegs r (∑ i ∈ Finset.range n, shiftCount i) := by
  induction n with
  | zero => simp [regsAfter, rotateRegs, rol28_eq_self]
  | succ n ih => simp only [regsAfter, ih, rotateRegs, rol28_rol28, Finset.sum_range_succ]

/-- After the last round the registers are back where PC1 left them. -/
theorem regsAfter_last (r : KeyRegs) : regsAfter r 16 = r := by
  have htotal : ∑ i ∈ Finset.range 16, shiftCount i = 28 := by decide
  rw [regsAfter_eq_rotateRegs, htotal, rotateRegs, rol28_eq_self _ rfl, rol28_eq_self _ rfl]

/-- Settles O41: the counts, one rotation, and the sum of all sixteen. -/
theorem rotationsAccumulateToTheWholeWidth : Obligations.RotationsAccumulateToTheWholeWidth :=
  ⟨by decide, fun _ _ => rfl, regsAfter_last⟩

/-! ### Permuted Choice 2 and the packing (R116, R117) -/

/-- The two registers of a 56-bit value. -/
def keyRegsOf (cd : BitVec 56) : KeyRegs := ⟨cd.extractLsb' 28 28, cd.extractLsb' 0 28⟩

theorem keyRegsOf_append (r : KeyRegs) : keyRegsOf (r.c ++ r.d) = r :=
  congrArg₂ KeyRegs.mk BitVec.extractLsb'_append_eq_left BitVec.extractLsb'_append_eq_right

theorem orHom_pc2Even : OrHom fun cd : BitVec 56 => pc2Even (keyRegsOf cd) := by
  simp only [pc2Even, keyRegsOf]
  fun_prop

theorem orHom_pc2Odd : OrHom fun cd : BitVec 56 => pc2Odd (keyRegsOf cd) := by
  simp only [pc2Odd, keyRegsOf]
  fun_prop

theorem orHom_packRoundKey_even : OrHom fun k : BitVec 48 => (packRoundKey k).even := by
  simp only [packRoundKey, keyGroup]
  fun_prop

theorem orHom_packRoundKey_odd : OrHom fun k : BitVec 48 => (packRoundKey k).odd := by
  simp only [packRoundKey, keyGroup]
  fun_prop

theorem pc2_zero : pc2 (keyRegsOf 0#56) = packRoundKey (perm 0#56 tablePC2) := by decide +kernel

theorem pc2_twoPow : ∀ i : Fin 56,
    pc2 (keyRegsOf (BitVec.twoPow 56 i.val)) = packRoundKey (perm (BitVec.twoPow 56 i.val) tablePC2) := by
  decide +kernel

/-- PC2 in word form is the published round key, packed (R117). -/
theorem pc2_eq_packRoundKey (r : KeyRegs) : pc2 r = packRoundKey (fipsPC2 r) := by
  have heven := orHom_pc2Even.eq_of_twoPow (orHom_packRoundKey_even.comp (.perm tablePC2))
    (congrArg RoundPair.even pc2_zero) (fun i => congrArg RoundPair.even (pc2_twoPow i)) (r.c ++ r.d)
  have hodd := orHom_pc2Odd.eq_of_twoPow (orHom_packRoundKey_odd.comp (.perm tablePC2))
    (congrArg RoundPair.odd pc2_zero) (fun i => congrArg RoundPair.odd (pc2_twoPow i)) (r.c ++ r.d)
  rw [keyRegsOf_append] at heven hodd
  exact congrArg₂ RoundPair.mk heven hodd

/-- Four groups of six bits, one a byte, leave the two high bits of every byte zero (R117). -/
theorem packed_groups_fixed_zero (a b c d : BitVec 6) :
    (a.setWidth 32 <<< 24 ||| b.setWidth 32 <<< 16 ||| c.setWidth 32 <<< 8 ||| d.setWidth 32) &&& 0xC0C0C0C0#32 =
      0 := by
  have h24 : ∀ g : BitVec 6, g.setWidth 32 <<< 24 &&& 0xC0C0C0C0#32 = 0 := by decide +kernel
  have h16 : ∀ g : BitVec 6, g.setWidth 32 <<< 16 &&& 0xC0C0C0C0#32 = 0 := by decide +kernel
  have h8 : ∀ g : BitVec 6, g.setWidth 32 <<< 8 &&& 0xC0C0C0C0#32 = 0 := by decide +kernel
  have h0 : ∀ g : BitVec 6, g.setWidth 32 &&& 0xC0C0C0C0#32 = 0 := by decide +kernel
  simp only [BitVec.and_or_distrib_right, h24, h16, h8, h0]
  rfl

theorem packRoundKey_even_fixed_zero (k : BitVec 48) : (packRoundKey k).even &&& 0xC0C0C0C0 = 0 :=
  packed_groups_fixed_zero ..

theorem packRoundKey_odd_fixed_zero (k : BitVec 48) : (packRoundKey k).odd &&& 0xC0C0C0C0 = 0 :=
  packed_groups_fixed_zero ..

/-- Settles O42: the two forms from their bits, the fixed bits from the packing. -/
theorem pc2IsThePublishedRoundKeyPacked : Obligations.Pc2IsThePublishedRoundKeyPacked := by
  intro r
  rw [pc2_eq_packRoundKey]
  exact ⟨rfl, packRoundKey_even_fixed_zero _, packRoundKey_odd_fixed_zero _⟩

/-! ### The whole schedule and its reversal (R118 to R120) -/

theorem generateSchedule_getElem (key : Key) (j : Nat) (hj : j < 32) : (generateSchedule key)[j] =
    if j % 2 = 0 then (pc2 (regsAfter (loadKeyRegs key) (j / 2 + 1))).even
    else (pc2 (regsAfter (loadKeyRegs key) (j / 2 + 1))).odd := by
  simp [generateSchedule, pc2]

theorem packSchedule_getElem (k : Vector (BitVec 48) 16) (j : Nat) (hj : j < 32) : (packSchedule k)[j] =
    if j % 2 = 0 then (packRoundKey k[j / 2]).even else (packRoundKey k[j / 2]).odd := by
  simp [packSchedule]

theorem fipsRoundKeys_getElem (key : Key) (i : Nat) (hi : i < 16) :
    (fipsRoundKeys key)[i] = fipsPC2 (regsAfter (fipsPC1 (toU64 key)) (i + 1)) := by
  simp [fipsRoundKeys]

/-- The generated schedule is the published round keys, packed (R118). -/
theorem generateSchedule_eq_packSchedule (key : Key) : generateSchedule key = packSchedule (fipsRoundKeys key) := by
  ext1 j hj
  rw [generateSchedule_getElem, packSchedule_getElem, fipsRoundKeys_getElem, loadKeyRegs_eq_fipsPC1,
    pc2_eq_packRoundKey]

/-- Settles O43: the schedule word by word, from PC1, PC2 and the packing. -/
theorem generatedScheduleHoldsThePublishedRoundKeys : Obligations.GeneratedScheduleHoldsThePublishedRoundKeys :=
  generateSchedule_eq_packSchedule

@[simp] theorem reversePairs_getElem (s : Schedule) (j : Nat) (hj : j < 32) :
    (reversePairs s)[j] = s[30 - 2 * (j / 2) + j % 2] := by
  simp [reversePairs]

/-- The first words of pair `i` and pair `15 - i` are exchanged (R119). -/
theorem reversePairs_even (s : Schedule) (i : Nat) (hi : i < 16) : (reversePairs s)[2 * i] = s[30 - 2 * i] := by
  have hidx : 30 - 2 * (2 * i / 2) + 2 * i % 2 = 30 - 2 * i := by omega
  simp only [reversePairs_getElem, hidx]

/-- The second words of pair `i` and pair `15 - i` are exchanged (R119). -/
theorem reversePairs_odd (s : Schedule) (i : Nat) (hi : i < 16) : (reversePairs s)[2 * i + 1] = s[31 - 2 * i] := by
  have hidx : 30 - 2 * ((2 * i + 1) / 2) + (2 * i + 1) % 2 = 31 - 2 * i := by omega
  simp only [reversePairs_getElem, hidx]

/-- Reversing twice changes nothing (R120). -/
@[simp] theorem reversePairs_reversePairs (s : Schedule) : reversePairs (reversePairs s) = s := by
  ext1 j hj
  have hidx : 30 - 2 * ((30 - 2 * (j / 2) + j % 2) / 2) + (30 - 2 * (j / 2) + j % 2) % 2 = j := by omega
  simp only [reversePairs_getElem, hidx]

/-- Settles O44: the index map of the reversal, once for each word of a pair and twice over. -/
theorem reversingPairsIsAnInvolution : Obligations.ReversingPairsIsAnInvolution :=
  ⟨fun s i => ⟨reversePairs_even s i.val i.isLt, reversePairs_odd s i.val i.isLt⟩, reversePairs_reversePairs⟩

end Sys2Proof.Machine
end

section
/-! SUPPORT. One pass with the reversed schedule undoes the pass (spec/43_initial_final_permutation.md R150,
spec/44_feistel_engine.md R159 to R162): `fp` undoes `ip` line by line, and a double round is undone by the double round
with its two pairs exchanged. -/

namespace Sys2Proof.Machine

/-! ### `ip` and `fp` undo each other -/

/-- A swap line of R146 whose `T` takes `X` shifted. -/
def swapLeft (n : Nat) (mask : Word) (h : Halves) : Halves :=
  ⟨(deltaSwap n mask h.left h.right).1, (deltaSwap n mask h.left h.right).2⟩

/-- A swap line of R146 whose `T` takes `Y` shifted. -/
def swapRight (n : Nat) (mask : Word) (h : Halves) : Halves := exchange (swapLeft n mask (exchange h))

@[simp] theorem exchange_exchange (h : Halves) : exchange (exchange h) = h := rfl

theorem swapLeft_swapLeft {n : Nat} {mask : Word} (h : Halves) (hm : (mask <<< n) >>> n = mask) :
    swapLeft n mask (swapLeft n mask h) = h := by
  simp only [swapLeft, deltaSwap_deltaSwap n mask h.left h.right hm]

theorem swapRight_swapRight {n : Nat} {mask : Word} (h : Halves) (hm : (mask <<< n) >>> n = mask) :
    swapRight n mask (swapRight n mask h) = h := by
  simp only [swapRight, exchange_exchange, swapLeft_swapLeft _ hm]

/-- An operation on `X` alone. -/
def mapLeft (f : Word → Word) (h : Halves) : Halves := ⟨f h.left, h.right⟩

/-- An operation on `Y` alone. -/
def mapRight (f : Word → Word) (h : Halves) : Halves := ⟨h.left, f h.right⟩

theorem mapLeft_mapLeft {f g : Word → Word} (hfg : Function.LeftInverse f g) (h : Halves) :
    mapLeft f (mapLeft g h) = h := by
  simp only [mapLeft, hfg h.left]

theorem mapRight_mapRight {f g : Word → Word} (hfg : Function.LeftInverse f g) (h : Halves) :
    mapRight f (mapRight g h) = h := by
  simp only [mapRight, hfg h.right]

/-- The lines of `ip` (R146), the last one outermost. -/
theorem ip_eq_lines (h : Halves) : ip h =
    mapLeft (rol32 · 1) (swapLeft 0 0xAAAAAAAA#32 (mapRight (rol32 · 1) (swapRight 8 0x00FF00FF#32
      (swapRight 2 0x33333333#32 (swapLeft 16 0x0000FFFF#32 (swapLeft 4 0x0F0F0F0F#32 h)))))) := rfl

/-- The lines of `fp` (R148), the last one outermost. -/
theorem fp_eq_lines (h : Halves) : fp h =
    swapLeft 4 0x0F0F0F0F#32 (swapLeft 16 0x0000FFFF#32 (swapRight 2 0x33333333#32 (swapRight 8 0x00FF00FF#32
      (mapRight (ror32 · 1) (swapLeft 0 0xAAAAAAAA#32 (mapLeft (ror32 · 1) h)))))) := rfl

@[simp] theorem fp_ip (h : Halves) : fp (ip h) = h := by
  have hrot : Function.LeftInverse (ror32 · 1) (rol32 · 1) := fun a => ror32_rol32 a 1 (by omega)
  simp (disch := decide) only [fp_eq_lines, ip_eq_lines, mapLeft_mapLeft hrot, mapRight_mapRight hrot,
    swapLeft_swapLeft, swapRight_swapRight]

@[simp] theorem ip_fp (h : Halves) : ip (fp h) = h := by
  have hrot : Function.LeftInverse (rol32 · 1) (ror32 · 1) := fun a => rol32_ror32 a 1 (by omega)
  simp (disch := decide) only [fp_eq_lines, ip_eq_lines, mapLeft_mapLeft hrot, mapRight_mapRight hrot,
    swapLeft_swapLeft, swapRight_swapRight]

/-! ### Blocks and halves -/

@[simp] theorem loadHalves_storeHalves (h : Halves) : loadHalves (storeHalves h) = h :=
  congrArg₂ Halves.mk (be32_unbe32 h.left) (be32_unbe32 h.right)

@[simp] theorem storeHalves_loadHalves (b : Block) : storeHalves (loadHalves b) = b := by
  simp only [storeHalves, loadHalves, bytesOf, hiWord, loWord, unbe32_be32]
  ext1 i hi
  interval_cases i <;> rfl

/-! ### The rounds under the reversed schedule -/

/-- Double round `7 - i` of the reversed schedule undoes double round `i` on the exchanged halves: its even round has
the pair of the odd round undone, and its odd round that of the even one. -/
theorem doubleRound_rev_exchange (s : Schedule) (i : Fin 8) (h : Halves) :
    doubleRound (reversePairs s) i.rev (exchange (doubleRound s i h)) = exchange h := by
  have hrev : i.rev.val = 7 - i.val := by
    rw [Fin.val_rev]
    omega
  -- Words `4 (7 - i)` to `4 (7 - i) + 3` of the reversed schedule are words `4i + 2`, `4i + 3`, `4i`, `4i + 1` of `s`.
  have h0 : 30 - 2 * (4 * (7 - i.val) / 2) + 4 * (7 - i.val) % 2 = 4 * i.val + 2 := by omega
  have h1 : 30 - 2 * ((4 * (7 - i.val) + 1) / 2) + (4 * (7 - i.val) + 1) % 2 = 4 * i.val + 3 := by omega
  have h2 : 30 - 2 * ((4 * (7 - i.val) + 2) / 2) + (4 * (7 - i.val) + 2) % 2 = 4 * i.val := by omega
  have h3 : 30 - 2 * ((4 * (7 - i.val) + 3) / 2) + (4 * (7 - i.val) + 3) % 2 = 4 * i.val + 1 := by omega
  simp only [doubleRound, exchange, reversePairs_getElem, hrev, h0, h1, h2, h3, BitVec.xor_assoc, BitVec.xor_self,
    BitVec.xor_zero]

/-- The double rounds of a list are undone in the reverse order. -/
theorem foldl_doubleRound_rev (s : Schedule) (l : List (Fin 8)) (h : Halves) :
    (l.reverse.map Fin.rev).foldl (fun h i => doubleRound (reversePairs s) i h)
      (exchange (l.foldl (fun h i => doubleRound s i h) h)) = exchange h := by
  induction l generalizing h with
  | nil => rfl
  | cons i l ih =>
    simp only [List.foldl_cons, List.reverse_cons, List.map_append, List.map_cons, List.map_nil, List.foldl_append,
      List.foldl_nil, ih, doubleRound_rev_exchange]

/-- The sixteen rounds under the reversed schedule undo those under the schedule, on exchanged halves. -/
theorem rounds_reversePairs (s : Schedule) (h : Halves) :
    rounds (reversePairs s) (exchange (rounds s h)) = exchange h := by
  have hrev : ((List.finRange 8).reverse.map Fin.rev) = List.finRange 8 := by decide
  have hundo := foldl_doubleRound_rev s (List.finRange 8) h
  rwa [hrev] at hundo

/-- A pass with the reversed schedule undoes the pass (R119, R162). -/
theorem processBlock_reversePairs (s : Schedule) (b : Block) :
    processBlock (reversePairs s) (processBlock s b) = b := by
  simp only [processBlock, loadHalves_storeHalves, ip_fp, rounds_reversePairs, exchange_exchange, fp_ip,
    storeHalves_loadHalves]

end Sys2Proof.Machine
end

section
/-! SUPPORT. The commands `KS1.E` and `KS1.D` (spec/41_key_schedule.md R122, R123): what they write, what `STATUS` shows
after them, and `CRYPT1` under the schedules they build. The two obligations are settled from these at the end. -/

namespace Sys2Proof.Machine

/-! ### The context a key-schedule command writes -/

@[simp] theorem slot_setDin (b : Block) (s : State) (j : Fin 3) : (s.setDin b).slot j = s.slot j := rfl

@[simp] theorem slot_setDout (b : Block) (s : State) (j : Fin 3) : (s.setDout b).slot j = s.slot j := rfl

@[simp] theorem slot_setContext (k : Cascade) (l : SchedLen) (d : Dir) (s : State) (j : Fin 3) :
    (s.setContext k l d).slot j = s.slot j := rfl

/-- Of two contexts written the second counts. -/
@[simp] theorem setContext_setContext (k k' : Cascade) (l l' : SchedLen) (d d' : Dir) (s : State) :
    (s.setContext k l d).setContext k' l' d' = s.setContext k' l' d' := rfl

/-- Another direction changes nothing else of the context. -/
theorem setContext_with_dir (k : Cascade) (l : SchedLen) (d d' : Dir) (s : State) :
    { s.setContext k l d with dir := d' } = s.setContext k l d' := rfl

/-- `SKLEN` and `DIR` at their places in `STATUS` (R33). -/
def contextBits (l : SchedLen) (d : Dir) : Word := l.code.setWidth 32 <<< 1 ||| d.code.setWidth 32 <<< 3

/-- The bits 3:1 of `STATUS` are those of the context. -/
theorem status_and_contextMask (s : State) : s.status &&& 0xE = contextBits s.sklen s.dir := by
  have hflag : ∀ b : Bool, (BitVec.ofBool b).setWidth 32 &&& (0xE : Word) = 0#32 := by decide
  have hlen : ∀ l : BitVec 2, l.setWidth 32 <<< 1 &&& (0xE : Word) = l.setWidth 32 <<< 1 := by decide
  have hdir : ∀ d : BitVec 1, d.setWidth 32 <<< 3 &&& (0xE : Word) = d.setWidth 32 <<< 3 := by decide
  have herr : ∀ e : BitVec 4, e.setWidth 32 <<< 4 &&& (0xE : Word) = 0#32 := by decide
  simp only [State.status, contextBits, BitVec.and_or_distrib_right, hflag, hlen, hdir, herr, BitVec.zero_or,
    BitVec.or_zero]

/-- With `FLAG` and `ERR` zero `STATUS` shows the context alone. -/
theorem status_of_flag_err_zero {s : State} (hflag : s.flag = false) (herr : s.err = none) :
    s.status = contextBits s.sklen s.dir := by
  simp [State.status, contextBits, hflag, herr, errCode]

theorem setContext_status_and_contextMask (k : Cascade) (l : SchedLen) (d : Dir) (s : State) :
    (s.setContext k l d).status &&& 0xE = contextBits l d := by
  rw [status_and_contextMask, State.setContext_sklen, State.setContext_dir]

theorem setContext_status {s : State} (k : Cascade) (l : SchedLen) (d : Dir) (hflag : s.flag = false)
    (herr : s.err = none) : (s.setContext k l d).status = contextBits l d := by
  rw [status_of_flag_err_zero (by simpa using hflag) (by simpa using herr), State.setContext_sklen,
    State.setContext_dir]

theorem singleContext_getElem_of_lt (sched : Schedule) {i : Nat} (hi : i < 32) :
    (singleContext sched)[i] = sched[i] := Vector.getElem_append_left hi

theorem singleContext_getElem_of_ge (sched : Schedule) {i : Nat} (hi : 32 ≤ i) (hlt : i < 96) :
    (singleContext sched)[i] = 0 := by
  rw [singleContext, Vector.getElem_append_right _ hi, zeros_getElem]
  rfl

/-- The pass of a one-key schedule runs on the words of that schedule. -/
@[simp] theorem segment_singleContext (sched : Schedule) : segment (singleContext sched) 0 = sched := by
  ext1 i hi
  rw [segment_getElem _ _ _ hi]
  simpa using singleContext_getElem_of_lt sched hi

/-! ### The commands outside error mode -/

theorem exec_ks1E_of_normal {s : State} (herr : s.err = none) : exec .ks1E s =
    .next (s.setContext (singleContext (generateSchedule (s.slot 0))) .single .enc) := by
  rw [exec_ks1E, inNormalMode_of_normal _ herr]

theorem exec_ks1D_of_normal {s : State} (herr : s.err = none) : exec .ks1D s =
    .next (s.setContext (singleContext (reversePairs (generateSchedule (s.slot 0)))) .single .dec) := by
  rw [exec_ks1D, inNormalMode_of_normal _ herr]

theorem exec_crypt1_of_single {s : State} (herr : s.err = none) (hlen : s.sklen = .single) :
    exec .crypt1 s = .next (s.setDout (processBlock (segment s.sk 0) s.din)) := by
  rw [exec_crypt1, inNormalMode_of_normal _ herr, cryptWith_of_len _ hlen]

/-- A command that completes ends in one state. -/
theorem eq_of_exec {i : Instr} {s t t' : State} (ht : exec i s = .next t) (ht' : exec i s = .next t') : t = t' :=
  Host.Outcome.next.inj (ht.symm.trans ht')

/-- `CRYPT1` after `KS1.D` gives back what it encrypted after `KS1.E` with the same key (R123). -/
theorem ks1D_crypt1_undoes_ks1E_crypt1 {s t u v w : State} (herr : s.err = none) (ht : exec .ks1E s = .next t)
    (hu : exec .crypt1 t = .next u) (hv : exec .ks1D (u.setDin u.dout) = .next v)
    (hw : exec .crypt1 v = .next w) : w.dout = s.din := by
  obtain rfl := eq_of_exec ht (exec_ks1E_of_normal herr)
  obtain rfl := eq_of_exec hu (exec_crypt1_of_single (by simpa using herr) (by simp))
  obtain rfl := eq_of_exec hv (exec_ks1D_of_normal (by simpa using herr))
  obtain rfl := eq_of_exec hw (exec_crypt1_of_single (by simpa using herr) (by simp))
  simp [processBlock_reversePairs]

/-! ### Weak keys and the example -/

/-- Registers that one rotation leaves alone stay the same in every round. -/
theorem regsAfter_of_rotateRegs_one {r : KeyRegs} (hr : rotateRegs r 1 = r) (n : Nat) : regsAfter r n = r := by
  have hall : ∀ k, rotateRegs r k = r := by
    intro k
    induction k with
    | zero => simp [rotateRegs, rol28_eq_self]
    | succ k ih =>
      calc rotateRegs r (k + 1) = rotateRegs (rotateRegs r k) 1 := by simp only [rotateRegs, rol28_rol28]
        _ = r := by rw [ih, hr]
  rw [regsAfter_eq_rotateRegs, hall]

/-- The key registers of the four weak keys are all zeros or all ones (R121). -/
theorem loadKeyRegs_weak : (weakKeys.take 4).map loadKeyRegs =
    [⟨0, 0⟩, ⟨0xFFFFFFF, 0xFFFFFFF⟩, ⟨0, 0xFFFFFFF⟩, ⟨0xFFFFFFF, 0⟩] := by decide +kernel

theorem rotateRegs_weak {w : Key} (hw : w ∈ weakKeys.take 4) : rotateRegs (loadKeyRegs w) 1 = loadKeyRegs w := by
  have hfixed : ∀ r ∈ (weakKeys.take 4).map loadKeyRegs, rotateRegs r 1 = r := by
    rw [loadKeyRegs_weak]
    decide
  exact hfixed _ (List.mem_map_of_mem hw)

/-- The schedule of a weak key has one round pair sixteen times, so that it is its own reversal (R121, R123). -/
theorem reversePairs_of_weak {w : Key} (hw : w ∈ weakKeys.take 4) :
    reversePairs (generateSchedule w) = generateSchedule w := by
  have hregs := regsAfter_of_rotateRegs_one (rotateRegs_weak hw)
  ext1 j hj
  have hparity : (30 - 2 * (j / 2) + j % 2) % 2 = j % 2 := by omega
  simp only [reversePairs_getElem, generateSchedule_getElem, hregs, hparity]

theorem generateSchedule_exampleKey1 :
    (generateSchedule exampleKey1)[0] = 0x302F0732 ∧ (generateSchedule exampleKey1)[1] = 0x060B3F01 ∧
    (generateSchedule exampleKey1)[30] = 0x330B2135 ∧ (generateSchedule exampleKey1)[31] = 0x3236031F := by
  decide +kernel

/-- Settles O13: the context that `KS1.E` writes, then what a second `KS1.E`, `STATUS` and the example's words show
of it. -/
theorem ks1EBuildsTheEncryptionSchedule : Obligations.Ks1EBuildsTheEncryptionSchedule := by
  refine ⟨rfl, fun s => exec_ks1E_of_normal, fun s => exec_of_error nofun, ?_, ?_⟩
  · intro s t herr ht
    obtain rfl := eq_of_exec ht (exec_ks1E_of_normal herr)
    rw [exec_ks1E_of_normal (by simpa using herr), slot_setContext, setContext_setContext]
    exact ⟨rfl, setContext_status_and_contextMask ..⟩
  · intro s t herr hflag hslot ht
    obtain rfl := eq_of_exec ht (exec_ks1E_of_normal herr)
    obtain ⟨h0, h1, h30, h31⟩ := generateSchedule_exampleKey1
    rw [setContext_status _ _ _ hflag herr, State.setContext_sk, hslot]
    exact ⟨(singleContext_getElem_of_lt _ (by omega)).trans h0, (singleContext_getElem_of_lt _ (by omega)).trans h1,
      (singleContext_getElem_of_lt _ (by omega)).trans h30, (singleContext_getElem_of_lt _ (by omega)).trans h31,
      singleContext_getElem_of_ge _ (by omega) _, rfl⟩

/-- Settles O14: the context that `KS1.D` writes, the weak keys from their unchanging registers, the round trip from
the pass undone, then a second `KS1.D`, `STATUS` and the example. -/
theorem ks1DBuildsTheDecryptionSchedule : Obligations.Ks1DBuildsTheDecryptionSchedule := by
  refine ⟨rfl, fun s => exec_ks1D_of_normal, fun s => exec_of_error nofun, ?_,
    fun s t u v w => ks1D_crypt1_undoes_ks1E_crypt1, ?_, ?_⟩
  · intro j w s t u hw herr hslot ht hu
    obtain rfl := eq_of_exec ht (exec_ks1E_of_normal herr)
    obtain rfl := eq_of_exec hu (exec_ks1D_of_normal herr)
    have hmem : w ∈ weakKeys.take 4 := List.mem_of_getElem? (i := j.val) (by rwa [List.getElem?_take_of_lt j.isLt])
    rw [hslot, reversePairs_of_weak hmem, setContext_with_dir]
  · intro s t herr ht
    obtain rfl := eq_of_exec ht (exec_ks1D_of_normal herr)
    rw [exec_ks1D_of_normal (by simpa using herr), slot_setContext, setContext_setContext]
    exact ⟨rfl, setContext_status_and_contextMask ..⟩
  · intro s t herr hflag hslot ht
    obtain rfl := eq_of_exec ht (exec_ks1D_of_normal herr)
    obtain ⟨h0, h1, h30, h31⟩ := generateSchedule_exampleKey1
    rw [setContext_status _ _ _ hflag herr, State.setContext_sk, hslot]
    have hword (j : Nat) (hj : j < 32) :
        (singleContext (reversePairs (generateSchedule exampleKey1)))[j] =
          (generateSchedule exampleKey1)[30 - 2 * (j / 2) + j % 2] :=
      (singleContext_getElem_of_lt _ hj).trans (reversePairs_getElem ..)
    exact ⟨(hword 0 (by omega)).trans h30, (hword 1 (by omega)).trans h31, (hword 30 (by omega)).trans h0,
      (hword 31 (by omega)).trans h1, rfl⟩

end Sys2Proof.Machine
end

section
/-! SUPPORT. The cascade composer (spec/42_cascade_key_composer.md): a cascade is three passes joined, word by word and
pass by pass; a decryption cascade is the encryption cascade with all 48 round pairs reversed; and three passes under
one key collapse to one. The composer's statement and those of the four commands are settled from these at the end. -/

namespace Sys2Proof.Machine

/-! ### Three passes joined -/

/-- The schedule memory with the schedules of three passes (R131). -/
def joinPasses (s1 s2 s3 : Schedule) : Cascade := s1 ++ s2 ++ s3

theorem compose2Enc_eq_joinPasses (k1 k2 : Key) : compose2Enc k1 k2 =
    joinPasses (generateSchedule k1) (reversePairs (generateSchedule k2)) (generateSchedule k1) := rfl

theorem compose2Dec_eq_joinPasses (k1 k2 : Key) : compose2Dec k1 k2 =
    joinPasses (reversePairs (generateSchedule k1)) (generateSchedule k2) (reversePairs (generateSchedule k1)) := rfl

theorem compose3Enc_eq_joinPasses (k1 k2 k3 : Key) : compose3Enc k1 k2 k3 =
    joinPasses (generateSchedule k1) (reversePairs (generateSchedule k2)) (generateSchedule k3) := rfl

theorem compose3Dec_eq_joinPasses (k1 k2 k3 : Key) : compose3Dec k1 k2 k3 =
    joinPasses (reversePairs (generateSchedule k3)) (generateSchedule k2) (reversePairs (generateSchedule k1)) := rfl

theorem joinPasses_getElem (s1 s2 s3 : Schedule) (i : Nat) (hi : i < 96) : (joinPasses s1 s2 s3)[i] =
    if h : i < 32 then s1[i] else if h' : i < 64 then s2[i - 32] else s3[i - 64] := by
  have houter : (joinPasses s1 s2 s3)[i] = if h : i < 64 then (s1 ++ s2)[i] else s3[i - 64] :=
    Vector.getElem_append hi
  rw [houter]
  obtain h | h | h : i < 32 ∨ (32 ≤ i ∧ i < 64) ∨ 64 ≤ i := by omega
  all_goals simp (disch := omega) only [Vector.getElem_append, dif_pos, dif_neg]

/-! The three segments (R24, R131). -/

@[simp] theorem segment_joinPasses_zero (s1 s2 s3 : Schedule) : segment (joinPasses s1 s2 s3) 0 = s1 := by
  ext1 i hi
  simp [joinPasses_getElem, hi]

@[simp] theorem segment_joinPasses_one (s1 s2 s3 : Schedule) : segment (joinPasses s1 s2 s3) 1 = s2 := by
  ext1 i hi
  simp (disch := omega) [joinPasses_getElem, dif_pos]

@[simp] theorem segment_joinPasses_two (s1 s2 s3 : Schedule) : segment (joinPasses s1 s2 s3) 2 = s3 := by
  ext1 i hi
  simp (disch := omega) [joinPasses_getElem, dif_neg]

/-! ### The mirror (R139) -/

/-- All 48 round pairs in reverse order, the order inside a pair kept. -/
def reverseCascade (s : Cascade) : Cascade :=
  Vector.ofFn fun j : Fin 96 => s[94 - 2 * (j.val / 2) + j.val % 2]

theorem reverseCascade_getElem (s : Cascade) (j : Nat) (hj : j < 96) :
    (reverseCascade s)[j] = s[94 - 2 * (j / 2) + j % 2] := by
  simp [reverseCascade]

theorem reverseCascade_even (s : Cascade) (p : Nat) (hp : p < 48) : (reverseCascade s)[2 * p] = s[94 - 2 * p] := by
  have hidx : 94 - 2 * (2 * p / 2) + 2 * p % 2 = 94 - 2 * p := by omega
  simp only [reverseCascade_getElem, hidx]

theorem reverseCascade_odd (s : Cascade) (p : Nat) (hp : p < 48) :
    (reverseCascade s)[2 * p + 1] = s[95 - 2 * p] := by
  have hidx : 94 - 2 * ((2 * p + 1) / 2) + (2 * p + 1) % 2 = 95 - 2 * p := by omega
  simp only [reverseCascade_getElem, hidx]

/-- Reversing a cascade reverses each pass and their order. -/
theorem reverseCascade_joinPasses (s1 s2 s3 : Schedule) :
    reverseCascade (joinPasses s1 s2 s3) = joinPasses (reversePairs s3) (reversePairs s2) (reversePairs s1) := by
  ext1 j hj
  -- A word of pass `p` comes from pass `2 - p`.
  obtain h | h | h : j < 32 ∨ (32 ≤ j ∧ j < 64) ∨ 64 ≤ j := by omega
  all_goals
    simp (disch := omega) only [reverseCascade_getElem, joinPasses_getElem, reversePairs_getElem, dif_pos, dif_neg]
    congr 1
    omega

theorem compose3Dec_eq_reverseCascade (k1 k2 k3 : Key) :
    compose3Dec k1 k2 k3 = reverseCascade (compose3Enc k1 k2 k3) := by
  rw [compose3Enc_eq_joinPasses, reverseCascade_joinPasses, reversePairs_reversePairs, compose3Dec_eq_joinPasses]

/-! ### Two keys as three, and one key three times (R139) -/

theorem compose2Enc_eq_compose3Enc (k1 k2 : Key) : compose2Enc k1 k2 = compose3Enc k1 k2 k1 := rfl

theorem compose2Dec_eq_compose3Dec (k1 k2 : Key) : compose2Dec k1 k2 = compose3Dec k1 k2 k1 := rfl

theorem compose2Dec_eq_reverseCascade (k1 k2 : Key) : compose2Dec k1 k2 = reverseCascade (compose2Enc k1 k2) :=
  compose3Dec_eq_reverseCascade k1 k2 k1

/-- The three passes of a cascade (R164). -/
theorem processBlock3_joinPasses (s1 s2 s3 : Schedule) (b : Block) :
    processBlock3 (joinPasses s1 s2 s3) b = processBlock s3 (processBlock s2 (processBlock s1 b)) := by
  simp only [processBlock3, segment_joinPasses_zero, segment_joinPasses_one, segment_joinPasses_two]

/-- A middle pass with the reversed schedule undoes the first, and one pass is left. -/
theorem processBlock3_collapse (s : Schedule) (b : Block) :
    processBlock3 (joinPasses s (reversePairs s) s) b = processBlock s b := by
  rw [processBlock3_joinPasses, processBlock_reversePairs]

/-- Settles O46: the segments from the joined passes, the mirror from the reversed cascade, two keys as three by
definition, and the collapse from the pass undone. -/
theorem cascadesAreComposedAsStated : Obligations.CascadesAreComposedAsStated := by
  refine ⟨fun k1 k2 k3 => ?_, fun k1 k2 k3 p => ?_,
    fun k1 k2 => ⟨compose2Enc_eq_compose3Enc k1 k2, compose2Dec_eq_compose3Dec k1 k2⟩,
    fun k => processBlock3_collapse (generateSchedule k)⟩
  · simp only [compose2Enc_eq_joinPasses, compose2Dec_eq_joinPasses, compose3Enc_eq_joinPasses,
      compose3Dec_eq_joinPasses, segment_joinPasses_zero, segment_joinPasses_one, segment_joinPasses_two, and_self]
  · simp only [compose3Dec_eq_reverseCascade, compose2Dec_eq_reverseCascade]
    exact ⟨reverseCascade_even _ _ p.isLt, reverseCascade_odd _ _ p.isLt, reverseCascade_even _ _ p.isLt,
      reverseCascade_odd _ _ p.isLt⟩

/-! ### The commands outside error mode (R135 to R138) -/

theorem exec_ks2E_of_normal {s : State} (herr : s.err = none) : exec .ks2E s =
    .next (s.setContext (compose2Enc (s.slot 0) (s.slot 1)) .cascade .enc) := by
  rw [exec_ks2E, inNormalMode_of_normal _ herr]

theorem exec_ks2D_of_normal {s : State} (herr : s.err = none) : exec .ks2D s =
    .next (s.setContext (compose2Dec (s.slot 0) (s.slot 1)) .cascade .dec) := by
  rw [exec_ks2D, inNormalMode_of_normal _ herr]

theorem exec_ks3E_of_normal {s : State} (herr : s.err = none) : exec .ks3E s =
    .next (s.setContext (compose3Enc (s.slot 0) (s.slot 1) (s.slot 2)) .cascade .enc) := by
  rw [exec_ks3E, inNormalMode_of_normal _ herr]

theorem exec_ks3D_of_normal {s : State} (herr : s.err = none) : exec .ks3D s =
    .next (s.setContext (compose3Dec (s.slot 0) (s.slot 1) (s.slot 2)) .cascade .dec) := by
  rw [exec_ks3D, inNormalMode_of_normal _ herr]

theorem exec_crypt3_of_cascade {s : State} (herr : s.err = none) (hlen : s.sklen = .cascade) :
    exec .crypt3 s = .next (s.setDout (processBlock3 s.sk s.din)) := by
  rw [exec_crypt3, inNormalMode_of_normal _ herr, cryptWith_of_len _ hlen]

/-- Two commands collapse where the first writes one schedule three times, reversed in the middle, and the second writes
that schedule alone (R139). -/
theorem collapsesTo_of_contexts {ks ks1 : Instr} {eq : State → Prop} {sched : State → Schedule} {d d' : Dir}
    (hks : ∀ s : State, s.err = none → eq s → exec ks s =
      .next (s.setContext (joinPasses (sched s) (reversePairs (sched s)) (sched s)) .cascade d))
    (hks1 : ∀ s : State, s.err = none → exec ks1 s = .next (s.setContext (singleContext (sched s)) .single d')) :
    CollapsesTo ks ks1 eq := by
  intro s t u t' u' herr heq ht hu ht' hu'
  obtain rfl := eq_of_exec ht (hks s herr heq)
  obtain rfl := eq_of_exec ht' (hks1 s herr)
  obtain rfl := eq_of_exec hu (exec_crypt3_of_cascade (by simpa using herr) (by simp))
  obtain rfl := eq_of_exec hu' (exec_crypt1_of_single (by simpa using herr) (by simp))
  simp [processBlock3_collapse]

/-! ### The example -/

theorem contextBits_cascade_enc : contextBits .cascade .enc = 0x4 := by decide

theorem contextBits_cascade_dec : contextBits .cascade .dec = 0xC := by decide

theorem generateSchedule_exampleKey2 :
    (generateSchedule exampleKey2)[0] = 0x21240E21 ∧ (generateSchedule exampleKey2)[1] = 0x0D111E07 ∧
    (generateSchedule exampleKey2)[30] = 0x06040327 ∧ (generateSchedule exampleKey2)[31] = 0x183C132B := by
  decide +kernel

theorem generateSchedule_exampleKey3 :
    (generateSchedule exampleKey3)[0] = 0x25133202 ∧ (generateSchedule exampleKey3)[1] = 0x0D3E142A ∧
    (generateSchedule exampleKey3)[30] = 0x241E3400 ∧ (generateSchedule exampleKey3)[31] = 0x2D3D290B := by
  decide +kernel

/-! ### The obligations of the four commands -/

/-- Settles O15: the context that `KS2.E` writes, the collapse, then what the segments, `STATUS` and the example's words
show of it. -/
theorem ks2EBuildsTheTwoKeyEncryptionSchedule : Obligations.Ks2EBuildsTheTwoKeyEncryptionSchedule := by
  refine ⟨rfl, fun s => exec_ks2E_of_normal, fun s => exec_of_error nofun, ?_, ?_, ?_⟩
  · refine collapsesTo_of_contexts (d := .enc) (fun s herr heq => ?_) fun s => exec_ks1E_of_normal
    rw [exec_ks2E_of_normal herr, compose2Enc_eq_joinPasses, heq]
  · intro s t herr ht
    obtain rfl := eq_of_exec ht (exec_ks2E_of_normal herr)
    rw [State.setContext_sk, compose2Enc_eq_joinPasses, segment_joinPasses_zero, segment_joinPasses_two]
    exact ⟨rfl, setContext_status_and_contextMask ..⟩
  · intro s t herr hflag hslot0 hslot1 ht
    obtain rfl := eq_of_exec ht (exec_ks2E_of_normal herr)
    rw [setContext_status _ _ _ hflag herr, State.setContext_sk, hslot0, hslot1]
    simp [compose2Enc_eq_joinPasses, joinPasses_getElem, contextBits_cascade_enc, generateSchedule_exampleKey1,
      generateSchedule_exampleKey2]

/-- Settles O16: the context that `KS2.D` writes, the collapse for the schedule already reversed, then what the
segments, `STATUS` and the example's words show of it. -/
theorem ks2DBuildsTheTwoKeyDecryptionSchedule : Obligations.Ks2DBuildsTheTwoKeyDecryptionSchedule := by
  refine ⟨rfl, fun s => exec_ks2D_of_normal, fun s => exec_of_error nofun, ?_, ?_, ?_⟩
  · refine collapsesTo_of_contexts (d := .dec) (fun s herr heq => ?_) fun s => exec_ks1D_of_normal
    rw [exec_ks2D_of_normal herr, compose2Dec_eq_joinPasses, heq, reversePairs_reversePairs]
  · intro s t herr ht
    obtain rfl := eq_of_exec ht (exec_ks2D_of_normal herr)
    rw [State.setContext_sk, compose2Dec_eq_joinPasses, segment_joinPasses_zero, segment_joinPasses_two]
    exact ⟨rfl, setContext_status_and_contextMask ..⟩
  · intro s t herr hflag hslot0 hslot1 ht
    obtain rfl := eq_of_exec ht (exec_ks2D_of_normal herr)
    rw [setContext_status _ _ _ hflag herr, State.setContext_sk, hslot0, hslot1]
    simp [compose2Dec_eq_joinPasses, joinPasses_getElem, contextBits_cascade_dec, generateSchedule_exampleKey1,
      generateSchedule_exampleKey2]

/-- Settles O17: the context that `KS3.E` writes, that of `KS2.E` as two keys used as three, and the example. -/
theorem ks3EBuildsTheThreeKeyEncryptionSchedule : Obligations.Ks3EBuildsTheThreeKeyEncryptionSchedule := by
  refine ⟨rfl, fun s => exec_ks3E_of_normal, fun s => exec_of_error nofun, ?_, ?_⟩
  · intro s herr hslot
    rw [exec_ks3E_of_normal herr, exec_ks2E_of_normal herr, hslot, compose2Enc_eq_compose3Enc]
  · intro s t herr hflag hslot0 hslot1 hslot2 ht
    obtain rfl := eq_of_exec ht (exec_ks3E_of_normal herr)
    rw [setContext_status _ _ _ hflag herr, State.setContext_sk, hslot0, hslot1, hslot2]
    simp [compose3Enc_eq_joinPasses, joinPasses_getElem, contextBits_cascade_enc, generateSchedule_exampleKey1,
      generateSchedule_exampleKey2, generateSchedule_exampleKey3]

/-- Settles O18: the context that `KS3.D` writes, that of `KS2.D` as two keys used as three, and the example. -/
theorem ks3DBuildsTheThreeKeyDecryptionSchedule : Obligations.Ks3DBuildsTheThreeKeyDecryptionSchedule := by
  refine ⟨rfl, fun s => exec_ks3D_of_normal, fun s => exec_of_error nofun, ?_, ?_⟩
  · intro s herr hslot
    rw [exec_ks3D_of_normal herr, exec_ks2D_of_normal herr, hslot, compose2Dec_eq_compose3Dec]
  · intro s t herr hflag hslot0 hslot1 hslot2 ht
    obtain rfl := eq_of_exec ht (exec_ks3D_of_normal herr)
    rw [setContext_status _ _ _ hflag herr, State.setContext_sk, hslot0, hslot1, hslot2]
    simp [compose3Dec_eq_joinPasses, joinPasses_getElem, contextBits_cascade_dec, generateSchedule_exampleKey1,
      generateSchedule_exampleKey2, generateSchedule_exampleKey3]

end Sys2Proof.Machine
end

section
/-! SUPPORT. `ip` and `fp` are the published permutations (spec/43_initial_final_permutation.md R146 to R149). `ip`
carries OR to OR, as its FIPS form does, so the two agree once they agree on every single bit. `fp` undoes `ip` by its
lines, and its FIPS form undoes that of `ip` by the tables, so these two agree with nothing more to compute. -/

namespace Sys2Proof.Machine

/-! ### Halves and 64-bit values -/

/-- The two halves as one 64-bit value, the first one high (R147). -/
def joinHalves (h : Halves) : U64 := h.left ++ h.right

theorem halvesOf_joinHalves (h : Halves) : halvesOf (joinHalves h) = h := halvesOf_append h.left h.right

theorem joinHalves_halvesOf (v : U64) : joinHalves (halvesOf v) = v :=
  have hbits : 32 = 0 + 32 := rfl
  (BitVec.extractLsb'_append_extractLsb'_eq_extractLsb' hbits).trans BitVec.extractLsb'_eq_self

theorem fipsIP_eq_halvesOf (v : U64) : fipsIP v = halvesOf (perm v tableIP) := rfl

/-! ### `ip` (R146, R147) -/

@[fun_prop]
theorem OrHom.append {n m k : Nat} {f : BitVec n → BitVec m} {g : BitVec n → BitVec k} (hf : OrHom f) (hg : OrHom g) :
    OrHom fun x => f x ++ g x := fun a b => by
  simp only [hf a b, hg a b, BitVec.or_append]

@[fun_prop]
theorem OrHom.rol32_one {n : Nat} {f : BitVec n → Word} (hf : OrHom f) : OrHom fun x => rol32 (f x) 1 := by
  simp only [fun a : Word => rol32_eq_shifts a 1 (by omega)]
  fun_prop

theorem orHom_ip : OrHom fun v => joinHalves (ip (halvesOf v)) := by
  simp only [joinHalves, ip, halvesOf]
  fun_prop

theorem orHom_ipFips : OrHom fun v => joinHalves (ipFips (halvesOf v)) := by
  simp only [joinHalves, ipFips, fipsIP, halvesOf]
  fun_prop

theorem ip_zero : ip (halvesOf 0#64) = ipFips (halvesOf 0#64) := by decide +kernel

theorem ip_twoPow : ∀ i : Fin 64,
    ip (halvesOf (BitVec.twoPow 64 i.val)) = ipFips (halvesOf (BitVec.twoPow 64 i.val)) := by
  decide +kernel

/-- `ip` in word form is `ip` in FIPS form (R147). -/
theorem ip_eq_ipFips (h : Halves) : ip h = ipFips h := by
  have hjoin := orHom_ip.eq_of_twoPow orHom_ipFips (congrArg joinHalves ip_zero)
    (fun i => congrArg joinHalves (ip_twoPow i)) (joinHalves h)
  simpa only [halvesOf_joinHalves] using congrArg halvesOf hjoin

/-! ### `fp` (R148, R149) -/

/-- Permuting by `t` and then by a table `u` with `t[u[j]] = j` (numbered from 1, R10) gives the value back. -/
theorem perm_perm_of_inverse {n : Nat} {t u : Vector Nat n}
    (hut : ∀ j : Fin n, 1 ≤ u[j] ∧ t[u[j] - 1]? = some (j.val + 1)) (v : BitVec n) :
    perm (perm v t : BitVec n) u = v := by
  apply BitVec.eq_of_getLsbD_eq
  intro b hb
  obtain ⟨hpos, hentry⟩ := hut ⟨n - 1 - b, by omega⟩
  obtain ⟨hle, hval⟩ := Vector.getElem?_eq_some_iff.mp hentry
  simp only [Fin.getElem_fin] at hpos hle hval
  rw [getLsbD_perm _ _ _ hb, getLsbD_perm _ _ _ (by omega)]
  have hidx : n - 1 - (n - u[n - 1 - b]) = u[n - 1 - b] - 1 := by omega
  simp only [hidx, hval]
  congr 1
  omega

theorem tableFP_tableIP : ∀ j : Fin 64, tableFP[tableIP[j] - 1]? = some (j.val + 1) := by decide

theorem tableIP_tableFP : ∀ j : Fin 64, 1 ≤ tableFP[j] ∧ tableIP[tableFP[j] - 1]? = some (j.val + 1) := by decide

theorem fpFips_ipFips (h : Halves) : fpFips (ipFips h) = h := by
  calc fpFips (ipFips h)
    _ = halvesOf (perm (joinHalves (fipsIP (joinHalves h))) tableFP) := by
      simp only [fpFips, ipFips, ror32_rol32 _ 1 (by omega), halvesOf, joinHalves]
    _ = halvesOf (joinHalves h) := by
      rw [fipsIP_eq_halvesOf, joinHalves_halvesOf, perm_perm_of_inverse tableIP_tableFP]
    _ = h := halvesOf_joinHalves h

/-- `fp` in word form is `fp` in FIPS form (R149): both undo `ip`. -/
theorem fp_eq_fpFips (h : Halves) : fp h = fpFips h := by
  calc fp h
    _ = fpFips (ipFips (fp h)) := (fpFips_ipFips (fp h)).symm
    _ = fpFips h := by rw [← ip_eq_ipFips, ip_fp]

/-- Settles O47: `ip` from its bits, `fp` as the inverse of `ip`, and FP as the inverse of IP from the tables. -/
theorem ipAndFpAreThePublishedPermutations : Obligations.IpAndFpAreThePublishedPermutations :=
  ⟨ip_eq_ipFips, by decide, fp_eq_fpFips, tableFP_tableIP⟩

end Sys2Proof.Machine
end

section
/-! SUPPORT. feistel_engine and the single-block codec (spec/44_feistel_engine.md R157 to R166). The round function is
the published one because each table is read at the index of its S-box and holds that S-box after `P`; the rounds and
the pass follow from it. The obligations of the round function, the pass, the fused form and the two block commands are
settled where their lemmas stand. -/

namespace Sys2Proof.Machine

/-! ### The indices of the S-boxes (R117, R158) -/

/-- The six bits of a 48-bit value that S-box `j + 1` substitutes (R158). -/
def sboxIndex (v : BitVec 48) (j : Nat) : BitVec 6 := v.extractLsb' (42 - 6 * j) 6

theorem sboxIndex_xor (v w : BitVec 48) (j : Nat) : sboxIndex (v ^^^ w) j = sboxIndex v j ^^^ sboxIndex w j :=
  BitVec.extractLsb'_xor

theorem orHom_sboxIndex (j : Nat) : OrHom (sboxIndex · j) := by
  unfold sboxIndex
  fun_prop

@[fun_prop]
theorem OrHom.ror32_four {n : Nat} {f : BitVec n → Word} (hf : OrHom f) : OrHom fun x => ror32 (f x) 4 := by
  simp only [fun a : Word => ror32_eq_rol32 a 4 (by omega) (by omega), fun a : Word => rol32_eq_shifts a 28 (by omega)]
  fun_prop

/-- The index in byte `m` of a word, from the most significant one (R157). -/
def tableIndex (w : Word) (m : Fin 4) : BitVec 6 := w.extractLsb' (24 - 8 * m.val) 6

theorem tableIndex_xor (w x : Word) (m : Fin 4) : tableIndex (w ^^^ x) m = tableIndex w m ^^^ tableIndex x m :=
  BitVec.extractLsb'_xor

/-- The four indices of a word are S-box indices of a 48-bit value once they are so for every single bit. -/
theorem tableIndex_eq_sboxIndex {n : Nat} {f : BitVec n → Word} {g : BitVec n → BitVec 48} {box : Fin 4 → Nat}
    (hf : OrHom f) (hg : OrHom g) (hzero : ∀ m, tableIndex (f 0#n) m = sboxIndex (g 0#n) (box m))
    (hbit : ∀ (m : Fin 4) (i : Fin n), tableIndex (f (.twoPow n i.val)) m = sboxIndex (g (.twoPow n i.val)) (box m))
    (x : BitVec n) (m : Fin 4) : tableIndex (f x) m = sboxIndex (g x) (box m) :=
  (hf.extractLsb' _ 6).eq_of_twoPow ((orHom_sboxIndex _).comp hg) (hzero m) (hbit m) x

/-- The first word of a packed round key holds the groups of S2, S4, S6 and S8 (R117). -/
theorem tableIndex_packRoundKey_even : ∀ (k : BitVec 48) (m : Fin 4),
    tableIndex (packRoundKey k).even m = sboxIndex k (2 * m.val + 1) :=
  tableIndex_eq_sboxIndex orHom_packRoundKey_even .id (by decide +kernel) (by decide +kernel)

/-- The second word holds those of S1, S3, S5 and S7 (R117). -/
theorem tableIndex_packRoundKey_odd : ∀ (k : BitVec 48) (m : Fin 4),
    tableIndex (packRoundKey k).odd m = sboxIndex k (2 * m.val) :=
  tableIndex_eq_sboxIndex orHom_packRoundKey_odd .id (by decide +kernel) (by decide +kernel)

/-- A half rotated by one has the expanded groups of S2, S4, S6 and S8 in place (R158). -/
theorem tableIndex_rol32 : ∀ (r : Word) (m : Fin 4),
    tableIndex (rol32 r 1) m = sboxIndex (perm r tableE) (2 * m.val + 1) :=
  tableIndex_eq_sboxIndex (by fun_prop) (.perm tableE) (by decide +kernel) (by decide +kernel)

/-- Rotated back by four it has those of S1, S3, S5 and S7 (R158). -/
theorem tableIndex_ror32_rol32 : ∀ (r : Word) (m : Fin 4),
    tableIndex (ror32 (rol32 r 1) 4) m = sboxIndex (perm r tableE) (2 * m.val) :=
  tableIndex_eq_sboxIndex (by fun_prop) (.perm tableE) (by decide +kernel) (by decide +kernel)

/-! ### The round function (R157, R158) -/

/-- The output of S-box `j + 1` in its place before `P` (R158). -/
def sboxOutput (v : BitVec 48) (j : Fin 8) : Word := (sbox j (sboxIndex v j.val)).setWidth 32 <<< (4 * (7 - j.val))

/-- An entry of a listed table is an S-box output after `P` and the rotation (R95). -/
theorem lookup6_sboxIndex (v : BitVec 48) (j : Fin 8) :
    lookup6 (sbListed j) (sboxIndex v j.val) = rol32 (perm (sboxOutput v j) tableP) 1 :=
  sbListed_eq_published j _

theorem append_nibbles_eq_xor (a b c d e f g h : BitVec 4) : (a ++ b ++ c ++ d ++ e ++ f ++ g ++ h : Word) =
    a.setWidth 32 <<< 28 ^^^ b.setWidth 32 <<< 24 ^^^ c.setWidth 32 <<< 20 ^^^ d.setWidth 32 <<< 16 ^^^
      e.setWidth 32 <<< 12 ^^^ f.setWidth 32 <<< 8 ^^^ g.setWidth 32 <<< 4 ^^^ h.setWidth 32 <<< 0 := by
  apply BitVec.eq_of_getLsbD_eq
  intro i hi
  rw [BitVec.getLsbD_append, BitVec.getLsbD_append, BitVec.getLsbD_append, BitVec.getLsbD_append,
    BitVec.getLsbD_append, BitVec.getLsbD_append, BitVec.getLsbD_append]
  interval_cases i <;> simp

theorem fipsSubstitute_eq_xor (v : BitVec 48) : fipsSubstitute v =
    sboxOutput v 0 ^^^ sboxOutput v 1 ^^^ sboxOutput v 2 ^^^ sboxOutput v 3 ^^^ sboxOutput v 4 ^^^ sboxOutput v 5 ^^^
      sboxOutput v 6 ^^^ sboxOutput v 7 := append_nibbles_eq_xor ..

theorem rol32_one_xor (a b : Word) : rol32 (a ^^^ b) 1 = rol32 a 1 ^^^ rol32 b 1 := by
  apply BitVec.eq_of_getLsbD_eq
  intro i hi
  simp only [BitVec.getLsbD_xor, rol32_getLsbD _ i hi]

/-- The tables read at the S-box indices of a value give its substitution after `P` and the rotation. -/
theorem roundF_eq_fipsSubstitute {h k0 k1 : Word} {v : BitVec 48}
    (heven : ∀ m, tableIndex (k0 ^^^ h) m = sboxIndex v (2 * m.val + 1))
    (hodd : ∀ m, tableIndex (k1 ^^^ ror32 h 4) m = sboxIndex v (2 * m.val)) :
    roundF h k0 k1 = rol32 (perm (fipsSubstitute v) tableP) 1 := by
  calc roundF h k0 k1
    _ = lookup6 (sbListed 7) (tableIndex (k0 ^^^ h) 3) ^^^ lookup6 (sbListed 5) (tableIndex (k0 ^^^ h) 2) ^^^
          lookup6 (sbListed 3) (tableIndex (k0 ^^^ h) 1) ^^^ lookup6 (sbListed 1) (tableIndex (k0 ^^^ h) 0) ^^^
          lookup6 (sbListed 6) (tableIndex (k1 ^^^ ror32 h 4) 3) ^^^
          lookup6 (sbListed 4) (tableIndex (k1 ^^^ ror32 h 4) 2) ^^^
          lookup6 (sbListed 2) (tableIndex (k1 ^^^ ror32 h 4) 1) ^^^
          lookup6 (sbListed 0) (tableIndex (k1 ^^^ ror32 h 4) 0) := rfl
    _ = rol32 (perm (sboxOutput v 7) tableP) 1 ^^^ rol32 (perm (sboxOutput v 5) tableP) 1 ^^^
          rol32 (perm (sboxOutput v 3) tableP) 1 ^^^ rol32 (perm (sboxOutput v 1) tableP) 1 ^^^
          rol32 (perm (sboxOutput v 6) tableP) 1 ^^^ rol32 (perm (sboxOutput v 4) tableP) 1 ^^^
          rol32 (perm (sboxOutput v 2) tableP) 1 ^^^ rol32 (perm (sboxOutput v 0) tableP) 1 := by
      simp only [heven, hodd, ← lookup6_sboxIndex]
      rfl
    _ = rol32 (perm (fipsSubstitute v) tableP) 1 := by
      simp only [fipsSubstitute_eq_xor, perm_xor, rol32_one_xor]
      ac_rfl

/-- Settles O50: the tables are read at the S-box indices of the expanded half XOR the round key. -/
theorem roundFunctionIsThePublishedCipherFunction : Obligations.RoundFunctionIsThePublishedCipherFunction := by
  intro r k
  refine roundF_eq_fipsSubstitute (fun m => ?_) fun m => ?_
  · rw [tableIndex_xor, tableIndex_packRoundKey_even, tableIndex_rol32, BitVec.xor_comm, sboxIndex_xor]
  · rw [tableIndex_xor, tableIndex_packRoundKey_odd, tableIndex_ror32_rol32, BitVec.xor_comm, sboxIndex_xor]

/-! ### The rounds (R159, R160) -/

/-- Both halves rotated left by one, the form in which the rounds hold the published halves (R147, R160). -/
def rotateHalves (h : Halves) : Halves := ⟨rol32 h.left 1, rol32 h.right 1⟩

theorem packSchedule_even (k : Vector (BitVec 48) 16) (i : Nat) (hi : i < 16) :
    (packSchedule k)[2 * i] = (packRoundKey k[i]).even := by
  have hhalf : 2 * i / 2 = i := by omega
  simp [packSchedule_getElem, hhalf]

theorem packSchedule_odd (k : Vector (BitVec 48) 16) (i : Nat) (hi : i < 16) :
    (packSchedule k)[2 * i + 1] = (packRoundKey k[i]).odd := by
  have hhalf : (2 * i + 1) / 2 = i := by omega
  have hodd : (2 * i + 1) % 2 = 1 := by omega
  simp [packSchedule_getElem, hhalf, hodd]

/-- One half changed by the round function on the other is the published round, rotated (R158, R160). -/
theorem xor_roundF_packRoundKey (l r : Word) (k : BitVec 48) :
    rol32 l 1 ^^^ roundF (rol32 r 1) (packRoundKey k).even (packRoundKey k).odd = rol32 (l ^^^ fipsF r k) 1 := by
  rw [roundFunctionIsThePublishedCipherFunction r k, rol32_one_xor]

/-- A double round over packed round keys is two published rounds. -/
theorem doubleRound_packSchedule (k : Vector (BitVec 48) 16) (i : Fin 8) (h : Halves) :
    doubleRound (packSchedule k) i (rotateHalves h) =
      rotateHalves (fipsRound (fipsRound h k[2 * i.val]) k[2 * i.val + 1]) := by
  have h0 : (packSchedule k)[4 * i.val] = (packRoundKey k[2 * i.val]).even := by
    simp only [← packSchedule_even, ← Nat.mul_assoc]
  have h1 : (packSchedule k)[4 * i.val + 1] = (packRoundKey k[2 * i.val]).odd := by
    simp only [← packSchedule_odd, ← Nat.mul_assoc]
  have h2 : (packSchedule k)[4 * i.val + 2] = (packRoundKey k[2 * i.val + 1]).even := by
    simp only [← packSchedule_even, Nat.mul_add, ← Nat.mul_assoc]
  have h3 : (packSchedule k)[4 * i.val + 3] = (packRoundKey k[2 * i.val + 1]).odd := by
    simp only [← packSchedule_odd, Nat.mul_add, ← Nat.mul_assoc]
  simp only [doubleRound, rotateHalves, h0, h1, h2, h3, xor_roundF_packRoundKey, fipsRound]

theorem fipsRounds_succ (k : Vector (BitVec 48) 16) (h : Halves) (n : Nat) (hn : n < 16) :
    fipsRounds k h (n + 1) = fipsRound (fipsRounds k h n) k[n] := by
  have hlen : n < k.toList.length := by simpa using hn
  rw [fipsRounds, fipsRounds, List.take_succ_eq_append_getElem hlen, List.foldl_concat, Vector.getElem_toList]

/-- After `i` double rounds the words hold the published halves of `2i` rounds, rotated by one (R160). -/
theorem foldl_doubleRound_packSchedule (k : Vector (BitVec 48) 16) (h : Halves) (i : Nat) (hi : i ≤ 8) :
    ((List.finRange 8).take i).foldl (fun g j => doubleRound (packSchedule k) j g) (rotateHalves h) =
      rotateHalves (fipsRounds k h (2 * i)) := by
  induction i with
  | zero => rfl
  | succ i ih =>
    have hlen : i < (List.finRange 8).length := by simpa using hi
    rw [List.take_succ_eq_append_getElem hlen, List.foldl_concat, ih (by omega), doubleRound_packSchedule,
      Nat.mul_succ, fipsRounds_succ _ _ _ (by omega), fipsRounds_succ _ _ _ (by omega)]
    simp only [List.getElem_finRange, Fin.cast_mk]

/-- The sixteen rounds over packed round keys are the published ones, rotated (R160). -/
theorem rounds_packSchedule (k : Vector (BitVec 48) 16) (h : Halves) :
    rounds (packSchedule k) (rotateHalves h) = rotateHalves (fipsRounds k h 16) :=
  foldl_doubleRound_packSchedule k h 8 le_rfl

/-! ### One pass and three (R161 to R164) -/

theorem ip_eq_rotateHalves (h : Halves) : ip h = rotateHalves (fipsIP (joinHalves h)) := ip_eq_ipFips h

theorem exchange_rotateHalves (h : Halves) : exchange (rotateHalves h) = rotateHalves (exchange h) := rfl

theorem fp_rotateHalves (h : Halves) : fp (rotateHalves h) = halvesOf (perm (joinHalves h) tableFP) := by
  simp only [fp_eq_fpFips, fpFips, rotateHalves, ror32_rol32 _ 1 (by omega), halvesOf, joinHalves]

theorem toU64_eq_joinHalves (b : Block) : toU64 b = joinHalves (loadHalves b) := rfl

/-- A pass over packed round keys is the published DES computation with those keys (R162). -/
theorem toU64_processBlock_packSchedule (k : Vector (BitVec 48) 16) (b : Block) :
    toU64 (processBlock (packSchedule k) b) = fipsPass k (toU64 b) := by
  calc toU64 (processBlock (packSchedule k) b)
    _ = joinHalves (fp (exchange (rounds (packSchedule k) (rotateHalves (fipsIP (toU64 b)))))) := by
      rw [processBlock, toU64_eq_joinHalves, loadHalves_storeHalves, ip_eq_rotateHalves, toU64_eq_joinHalves]
    _ = perm (joinHalves (exchange (fipsRounds k (fipsIP (toU64 b)) 16))) tableFP := by
      rw [rounds_packSchedule, exchange_rotateHalves, fp_rotateHalves, joinHalves_halvesOf]
    _ = fipsPass k (toU64 b) := rfl

/-- Settles O52: the first form by definition, the published one from `ip`, the rounds and `fp`. -/
theorem passIsThePublishedDesComputation : Obligations.PassIsThePublishedDesComputation :=
  ⟨fun _ _ => rfl, toU64_processBlock_packSchedule⟩

/-- Between two passes `ip` undoes `fp`, and the exchange is left (R164). -/
theorem processBlock3Fused_eq_processBlock3 (s : Cascade) (b : Block) : processBlock3Fused s b = processBlock3 s b := by
  simp only [processBlock3Fused, processBlock3, processBlock, loadHalves_storeHalves, ip_fp]

/-- Settles O53: three passes by definition, the fused form because the permutations between the passes cancel. -/
theorem threePassesEqualTheFusedForm : Obligations.ThreePassesEqualTheFusedForm := fun s b =>
  ⟨rfl, processBlock3Fused_eq_processBlock3 s b⟩

/-! ### The block commands (R165, R166) -/

/-- Of two output blocks written the second counts. -/
@[simp] theorem setDout_setDout (b b' : Block) (s : State) : (s.setDout b).setDout b' = s.setDout b' := rfl

theorem processBlock_example : processBlock (generateSchedule exampleKey1) exampleBlock =
    #v[0x85, 0xE8, 0x13, 0x54, 0x0F, 0x0A, 0xB4, 0x05] := by decide +kernel

theorem processBlock3_nist : processBlock3 (compose3Enc nistKey1 nistKey2 nistKey3)
    #v[0x54, 0x68, 0x65, 0x20, 0x71, 0x75, 0x66, 0x63] = #v[0xA8, 0x26, 0xFD, 0x8C, 0xE5, 0x3B, 0x85, 0x5F] := by
  decide +kernel

/-- Settles O19: what `CRYPT1` writes or raises, then what a second `CRYPT1` and the example show of it. -/
theorem crypt1ProcessesOneBlock : Obligations.Crypt1ProcessesOneBlock := by
  refine ⟨rfl, fun s => exec_crypt1_of_single, fun s herr => exec_of_sklen_ne herr rfl,
    fun s => exec_of_error nofun, ?_, ?_⟩
  · intro s t herr hlen ht
    obtain rfl := eq_of_exec ht (exec_crypt1_of_single herr hlen)
    rw [exec_crypt1_of_single (by simpa using herr) (by simpa using hlen), setDout_setDout, State.setDout_sk,
      State.setDout_din]
  · intro s t u herr hslot hdin ht hu
    obtain rfl := eq_of_exec ht (exec_ks1E_of_normal herr)
    obtain rfl := eq_of_exec hu (exec_crypt1_of_single (by simpa using herr) (by simp))
    simpa [hslot, hdin] using processBlock_example

/-- Settles O20: what `CRYPT3` writes or raises, the collapse under one key, then what a second `CRYPT3` and the NIST
example show of it. -/
theorem crypt3ProcessesOneBlock : Obligations.Crypt3ProcessesOneBlock := by
  refine ⟨rfl, fun s => exec_crypt3_of_cascade, fun s herr => exec_of_sklen_ne herr rfl,
    fun s => exec_of_error nofun, ?_, ?_, ?_⟩
  · refine collapsesTo_of_contexts (d := .enc) (fun s herr ⟨hslot1, hslot2⟩ => ?_) fun s => exec_ks1E_of_normal
    rw [exec_ks3E_of_normal herr, compose3Enc_eq_joinPasses, hslot1, hslot2]
  · intro s t herr hlen ht
    obtain rfl := eq_of_exec ht (exec_crypt3_of_cascade herr hlen)
    rw [exec_crypt3_of_cascade (by simpa using herr) (by simpa using hlen), setDout_setDout, State.setDout_sk,
      State.setDout_din]
  · intro s t u herr hslot0 hslot1 hslot2 hdin ht hu
    obtain rfl := eq_of_exec ht (exec_ks3E_of_normal herr)
    obtain rfl := eq_of_exec hu (exec_crypt3_of_cascade (by simpa using herr) (by simp))
    simpa [hslot0, hslot1, hslot2, hdin] using processBlock3_nist

end Sys2Proof.Machine
end

section
/-! SUPPORT. The three functions of key hygiene (spec/45_key_hygiene.md R175 to R182) and the parity bits: forcing odd
parity keeps the seven key bits of a byte and forgets the eighth, and the schedule reads the seven alone. The
obligation on the weak-key check is settled from these at the end. -/

namespace Sys2Proof.Machine

/-! ### Forced parity -/

@[simp] theorem setOddParity_getElem (key : Key) (i : Nat) (hi : i < 8) :
    (setOddParity key)[i] = forceParity key[i] := by
  simp [setOddParity]

/-- The table keeps the seven key bits it is indexed by (R175). -/
theorem extractLsb'_par : ∀ i : BitVec 7, (par i).extractLsb' 1 7 = i := by decide +kernel

/-- Forcing odd parity changes no key bit (R177). -/
theorem sameKeyBits_setOddParity (key : Key) : sameKeyBits (setOddParity key) key := fun i => by
  simp [forceParity, extractLsb'_par]

/-- The forced key depends on the key bits alone (R177). -/
theorem setOddParity_congr {a b : Key} (h : sameKeyBits a b) : setOddParity a = setOddParity b := by
  ext1 i hi
  have hbits : a[i].extractLsb' 1 7 = b[i].extractLsb' 1 7 := h ⟨i, hi⟩
  simp only [setOddParity_getElem, forceParity, hbits]

/-- Forcing odd parity twice changes nothing more (R178). -/
@[simp] theorem setOddParity_setOddParity (key : Key) : setOddParity (setOddParity key) = setOddParity key :=
  setOddParity_congr (sameKeyBits_setOddParity key)

/-! ### The schedule reads the key bits alone -/

theorem tablePC1_lt : ∀ i : Fin 56, tablePC1[i] < 64 := by decide +kernel

/-- The FIPS bits of a key that are no multiple of 8 are its key bits (R114). -/
theorem fbit_toU64_congr {a b : Key} (h : sameKeyBits a b) {n : Nat} (hn : n < 64) (hpar : n % 8 ≠ 0) :
    fbit (toU64 a) n = fbit (toU64 b) n := by
  obtain ⟨k, i, hk, hi, rfl⟩ : ∃ k i, k < 8 ∧ i < 7 ∧ n = 8 * k + i + 1 :=
    ⟨n / 8, n % 8 - 1, by omega, by omega, by omega⟩
  have hbit := congrArg (fun x => x.getLsbD (6 - i)) (h ⟨k, hk⟩)
  have hpos : 1 + (6 - i) = 7 - i := by omega
  have hlt : 6 - i < 7 := by omega
  rw [fbit_toU64 a k i hk (by omega), fbit_toU64 b k i hk (by omega)]
  simpa [hpos, hlt] using hbit

/-- Keys with the same key bits load the same registers: PC1 names no parity bit (R114). -/
theorem loadKeyRegs_congr {a b : Key} (h : sameKeyBits a b) : loadKeyRegs a = loadKeyRegs b := by
  have hperm : (perm (toU64 a) tablePC1 : BitVec 56) = perm (toU64 b) tablePC1 := by
    refine congrArg BitVec.ofFnLE (funext fun i => ?_)
    exact fbit_toU64_congr h (tablePC1_lt ⟨55 - i.val, by omega⟩) (tablePC1_no_parity ⟨55 - i.val, by omega⟩)
  rw [loadKeyRegs_eq_fipsPC1, loadKeyRegs_eq_fipsPC1, fipsPC1, fipsPC1, hperm]

/-- Keys with the same key bits have one schedule (R121). -/
theorem generateSchedule_congr {a b : Key} (h : sameKeyBits a b) : generateSchedule a = generateSchedule b := by
  rw [generateSchedule, generateSchedule, loadKeyRegs_congr h]

/-- The schedule does not see the forcing of parity (R178). -/
theorem generateSchedule_setOddParity (key : Key) : generateSchedule (setOddParity key) = generateSchedule key :=
  generateSchedule_congr (sameKeyBits_setOddParity key)

/-! ### The weak-key check -/

theorem checkWeak_iff (key : Key) : checkWeak key = true ↔ key ∈ weakKeys := by
  simp [checkWeak]

theorem checkWeak_eq_false_iff (key : Key) : checkWeak key = false ↔ key ∉ weakKeys := by
  rw [← checkWeak_iff, Bool.not_eq_true]

/-- A pattern with the key bits of another is that pattern, for both have odd parity (R179). -/
theorem weakKeys_eq_of_sameKeyBits {v w : Key} (hv : v ∈ weakKeys) (hw : w ∈ weakKeys) (h : sameKeyBits v w) :
    v = w :=
  calc v = setOddParity v := (weakKeys_odd v hv).symm
    _ = setOddParity w := setOddParity_congr h
    _ = w := weakKeys_odd w hw

/-- Settles O59: the check is membership in the list, a parity variant of a pattern is no pattern but has its schedule,
and forcing its parity gives the pattern back. -/
theorem weakCheckComparesWholeBytes : Obligations.WeakCheckComparesWholeBytes := by
  refine ⟨weakKeys_length, fun w => (checkWeak_iff w).mpr, ?_, ?_, by decide +kernel, by decide +kernel, ?_⟩
  · intro k hdiff
    refine (checkWeak_eq_false_iff k).mpr fun hmem => ?_
    obtain ⟨i, hne⟩ := hdiff k hmem
    exact hne rfl
  · intro k w hw hbits hne
    exact ⟨(checkWeak_eq_false_iff k).mpr fun hk => hne (weakKeys_eq_of_sameKeyBits hk hw hbits),
      generateSchedule_congr hbits⟩
  · intro k w hw hbits
    rw [checkWeak_iff, setOddParity_congr hbits, weakKeys_odd w hw]
    exact hw

end Sys2Proof.Machine
end

section
/-! SUPPORT. The commands `PARSET`, `PARCHK` and `WEAKCHK` (spec/45_key_hygiene.md R183 to R185): what they write
outside error mode, the slots as the host reads them, and what every command does with `FLAG`. The three obligations are
settled from these at the end. -/

namespace Sys2Proof.Machine

/-! ### The commands outside error mode -/

theorem exec_parset_of_normal {s : State} (k : Fin 3) (herr : s.err = none) : exec (.parset (slotBits k)) s =
    .next (s.setSlot k (setOddParity (s.slot k))) := by
  rw [exec_parset, inNormalMode_of_normal _ herr, onSlot_slotBits]

theorem exec_parchk_of_normal {s : State} (k : Fin 3) (herr : s.err = none) : exec (.parchk (slotBits k)) s =
    .next (s.setFlag (checkOddParity (s.slot k))) := by
  rw [exec_parchk, inNormalMode_of_normal _ herr, onSlot_slotBits]

theorem exec_weakchk_of_normal {s : State} (k : Fin 3) (herr : s.err = none) : exec (.weakchk (slotBits k)) s =
    .next (s.setFlag (checkWeak (s.slot k))) := by
  rw [exec_weakchk, inNormalMode_of_normal _ herr, onSlot_slotBits]

theorem execute_of_reserved_of_normal {w : Word} {s : State} (hdec : decode w = none) (herr : s.err = none) :
    execute w s = .next (s.raise .illegalCommand) := by
  rw [execute_of_reserved s hdec, inNormalMode_of_normal _ herr]

/-! ### Slots -/

/-- Of two keys written to one slot the second counts. -/
@[simp] theorem setSlot_setSlot (k : Fin 3) (v w : Key) (s : State) : (s.setSlot k v).setSlot k w = s.setSlot k w := by
  have hkey : ((s.setSlot k v).setSlot k w).key = (s.setSlot k w).key := by
    ext1 i hi
    by_cases hslot : i / 8 = k.val <;> simp [hslot]
  apply State.ext_fields <;> simp [hkey]

theorem slot_reset (k : Fin 3) : State.reset.slot k = zeros 8 := by
  ext1 i hi
  simp

/-- The first register of a slot shows the high word of its key (R51). -/
theorem regRead_slot_hiWord (s : State) (k : Fin 3) : regRead s (0x010 + 8 * k.val) = hiWord (s.slot k) := by
  have hoff : (Reg.keyw ⟨2 * k.val, by omega⟩).offset = some (0x010 + 8 * k.val) := by
    simp only [Reg.offset, Option.some.injEq]
    omega
  rw [regRead_of_offset s hoff]
  simp [readReg, wordAt, hiWord, ← Nat.mul_assoc]

/-- The second register of a slot shows the low word of its key (R51). -/
theorem regRead_slot_loWord (s : State) (k : Fin 3) : regRead s (0x014 + 8 * k.val) = loWord (s.slot k) := by
  have hoff : (Reg.keyw ⟨2 * k.val + 1, by omega⟩).offset = some (0x014 + 8 * k.val) := by
    simp only [Reg.offset, Option.some.injEq]
    omega
  rw [regRead_of_offset s hoff]
  simp [readReg, wordAt, loWord, ← Nat.mul_assoc, Nat.mul_add, Nat.add_assoc]

/-! ### Operations that keep `FLAG` -/

theorem inNormalMode_flag {s t : State} {op : State → State} (h : inNormalMode s op = .next t)
    (hop : (op s).flag = s.flag) : t.flag = s.flag := by
  obtain ⟨-, rfl⟩ | ⟨-, rfl⟩ := inNormalMode_eq_next.mp h
  · exact hop
  · rfl

theorem cryptWith_flag (len : SchedLen) (f : State → Block) (s : State) : (cryptWith len f s).flag = s.flag := by
  by_cases hlen : s.sklen = len
  · rw [cryptWith_of_len f hlen, State.setDout_flag]
  · rw [cryptWith_of_ne f hlen, State.raise_flag]

/-- A slot number is that of a slot or the reserved 3 (R75). -/
theorem slotBits_or_three : ∀ n : BitVec 2, (∃ k, n = slotBits k) ∨ n = 3#2 := by decide

theorem onSlot_flag (n : BitVec 2) {op : Fin 3 → State → State} (s : State) (hop : ∀ k, (op k s).flag = s.flag) :
    (onSlot n op s).flag = s.flag := by
  obtain ⟨k, rfl⟩ | rfl := slotBits_or_three n
  · rw [onSlot_slotBits, hop]
  · rw [onSlot_three, State.raise_flag]

/-- Only the two predicates and `CLR` change `FLAG` (R184). -/
theorem exec_flag {i : Instr} {s t : State} (hpred : isPredicate i = false) (hclr : i ≠ .clr)
    (h : exec i s = .next t) : t.flag = s.flag := by
  cases i with
  | clr => exact absurd rfl hclr
  | ks1E | ks2E | ks3E | ks1D | ks2D | ks3D =>
    simp only [exec_ks1E, exec_ks2E, exec_ks3E, exec_ks1D, exec_ks2D, exec_ks3D] at h
    exact inNormalMode_flag h (State.setContext_flag ..)
  | crypt1 | crypt3 => exact inNormalMode_flag h (cryptWith_flag ..)
  | parset n => exact inNormalMode_flag h (onSlot_flag n s fun k => State.setSlot_flag k _ s)
  | parchk | weakchk => cases hpred

/-! ### Operations that do not read `FLAG` -/

/-- What the operation does beside `FLAG` does not depend on the old `FLAG`. -/
def FlagBlind (op : State → State) : Prop :=
  ∀ (s : State) (v b : Bool), (op (s.setFlag v)).setFlag b = (op s).setFlag b

theorem flagBlind_cryptWith {len : SchedLen} {f : State → Block} (hf : ∀ s v, f (s.setFlag v) = f s) :
    FlagBlind (cryptWith len f) := by
  intro s v b
  by_cases hlen : s.sklen = len
  · rw [cryptWith_of_len f hlen, cryptWith_of_len f (by simpa using hlen), hf]
    rfl
  · rw [cryptWith_of_ne f hlen, cryptWith_of_ne f (by simpa using hlen)]
    rfl

theorem flagBlind_onSlot (n : BitVec 2) {op : Fin 3 → State → State} (hop : ∀ k, FlagBlind (op k)) :
    FlagBlind (onSlot n op) := by
  intro s v b
  obtain ⟨k, rfl⟩ | rfl := slotBits_or_three n
  · rw [onSlot_slotBits, onSlot_slotBits, hop]
  · rfl

theorem inNormalMode_setFlag {op : State → State} {s t u : State} {v : Bool} (ht : inNormalMode s op = .next t)
    (hu : inNormalMode (s.setFlag v) op = .next u) (hop : FlagBlind op) : u.setFlag t.flag = t := by
  by_cases herr : s.err = none
  · obtain rfl := Host.Outcome.next.inj (ht.symm.trans (inNormalMode_of_normal op herr))
    obtain rfl := Host.Outcome.next.inj (hu.symm.trans (inNormalMode_of_normal op (by simpa using herr)))
    rw [hop]
    rfl
  · obtain rfl := Host.Outcome.next.inj (ht.symm.trans (inNormalMode_of_error op herr))
    obtain rfl := Host.Outcome.next.inj (hu.symm.trans (inNormalMode_of_error op (by simpa using herr)))
    rfl

/-- No command reads `FLAG` (R185). -/
theorem exec_setFlag {i : Instr} {s t u : State} {v : Bool} (ht : exec i s = .next t)
    (hu : exec i (s.setFlag v) = .next u) : u.setFlag t.flag = t := by
  cases i with
  | clr =>
    obtain rfl := eq_of_exec ht (exec_clr s)
    obtain rfl := eq_of_exec hu (exec_clr _)
    rfl
  | ks1E | ks2E | ks3E | ks1D | ks2D | ks3D =>
    simp only [exec_ks1E, exec_ks2E, exec_ks3E, exec_ks1D, exec_ks2D, exec_ks3D] at ht hu
    exact inNormalMode_setFlag ht hu fun _ _ _ => rfl
  | crypt1 | crypt3 => exact inNormalMode_setFlag ht hu (flagBlind_cryptWith fun _ _ => rfl)
  | parset n | parchk n | weakchk n =>
    exact inNormalMode_setFlag ht hu (flagBlind_onSlot n fun _ _ _ _ => rfl)

/-! ### The obligations of the hygiene commands -/

theorem setOddParity_example : setOddParity #v[0x12, 0x34, 0x56, 0x78, 0x90, 0xAB, 0xCD, 0xEF] =
    #v[0x13, 0x34, 0x57, 0x79, 0x91, 0xAB, 0xCD, 0xEF] := by decide +kernel

/-- Settles O21: the slot written is the forced key, and what is said of it is said of `setOddParity`. -/
theorem parsetForcesOddParityOnItsSlot : Obligations.ParsetForcesOddParityOnItsSlot := by
  refine ⟨by decide, ?_, fun s => execute_of_reserved_of_normal rfl, fun n s => exec_of_error nofun, ?_⟩
  · intro s k herr
    refine ⟨_, exec_parset_of_normal k herr, ?_, fun j => slot_setSlot_other j k _ s, rfl, ?_, ?_⟩
    · rw [slot_setSlot_same]
      exact fun i => setOddParity_getElem _ i.val i.isLt
    · rw [slot_setSlot_same, generateSchedule_setOddParity]
    · rw [exec_parset_of_normal k (by simpa using herr), slot_setSlot_same, setOddParity_setOddParity, setSlot_setSlot]
  · intro s t herr hslot ht
    obtain rfl := eq_of_exec ht (exec_parset_of_normal 0 herr)
    have hhi := regRead_slot_hiWord (s.setSlot 0 (setOddParity (s.slot 0))) 0
    have hlo := regRead_slot_loWord (s.setSlot 0 (setOddParity (s.slot 0))) 0
    rw [slot_setSlot_same, hslot, setOddParity_example] at hhi hlo
    rw [hslot, setOddParity_example]
    exact ⟨hhi.trans (by decide), hlo.trans (by decide)⟩

/-- Settles O22: `FLAG` is the parity check of the slot, and every other command but `WEAKCHK` and `CLR` keeps it. -/
theorem parchkReportsOddParityOfItsSlot : Obligations.ParchkReportsOddParityOfItsSlot := by
  refine ⟨by decide, fun s k => exec_parchk_of_normal k, fun s => execute_of_reserved_of_normal rfl,
    fun n s => exec_of_error nofun, fun i s t => exec_flag, ?_, ?_, ?_⟩
  · intro k
    have hzero : checkOddParity (zeros 8) = false := by decide +kernel
    rw [exec_parchk_of_normal k rfl, slot_reset, hzero]
    rfl
  · intro s herr hslot
    have hexample : checkOddParity exampleKey1 = true := by decide +kernel
    rw [← hexample, ← hslot]
    exact exec_parchk_of_normal 0 herr
  · intro s herr hslot
    have hexample : checkOddParity #v[0x12, 0x34, 0x56, 0x78, 0x90, 0xAB, 0xCD, 0xEF] = false := by decide +kernel
    rw [← hexample, ← hslot]
    exact exec_parchk_of_normal 0 herr

/-- Settles O23: `FLAG` is the weak-key check of the slot, and no command reads it. -/
theorem weakchkReportsWeakKeyInItsSlot : Obligations.WeakchkReportsWeakKeyInItsSlot := by
  refine ⟨by decide, fun s k => exec_weakchk_of_normal k, fun s => execute_of_reserved_of_normal rfl,
    fun n s => exec_of_error nofun, fun i v s t u => exec_setFlag, ?_, ?_, ?_⟩
  · intro k
    have hzero : checkWeak (zeros 8) = false := by decide +kernel
    rw [exec_weakchk_of_normal k rfl, slot_reset, hzero]
    rfl
  · intro s herr hslot
    have hexample : checkWeak #v[0xFE, 0xE0, 0xFE, 0xE0, 0xFE, 0xF1, 0xFE, 0xF1] = true := by decide +kernel
    rw [← hexample, ← hslot]
    exact exec_weakchk_of_normal 1 herr
  · intro s herr hslot
    have hexample : checkWeak exampleKey1 = false := by decide +kernel
    rw [← hexample, ← hslot]
    exact exec_weakchk_of_normal 0 herr

end Sys2Proof.Machine
end

section
/-! SUPPORT. The command `CLR` (spec/46_context_control.md R190): what the registers of the window show of a cleared
block, and that both block commands refuse its empty context. The obligation is settled from these at the end. -/

namespace Sys2Proof.Machine

/-- A word of a zero buffer is zero. -/
@[simp] theorem wordAt_zeros {n : Nat} (j : Nat) (h : 4 * j + 3 < n) : wordAt (zeros n) j h = 0#32 := by
  simp [wordAt, be32]

/-- `STATUS` does not see what is the host's, so it reads as at reset (R190). -/
@[simp] theorem State.clear_status (s : State) : s.clear.status = 0 := State.reset_status

/-- Every register of a cleared block reads zero: `STATUS`, the words of the byte buffers, and the two word memories. -/
theorem readReg_clear (s : State) (r : Reg) : readReg s.clear r = 0 := by
  cases r with
  | cmd | reserved => rfl
  | status => exact s.clear_status
  | keyw j | dinw j | doutw j => exact wordAt_zeros j.val _
  | skw i | scrw i => exact zeros_getElem i.val i.isLt

/-- A cleared block is outside error mode with no schedule, and every block command needs one. -/
theorem exec_clear_of_schedNeeded {i : Instr} {n : SchedLen} (s : State) (hi : schedNeeded i = some n)
    (hn : n ≠ .empty) : exec i s.clear = .next (s.clear.raise .invalidLength) :=
  exec_of_sklen_ne s.clear_err hi (s.clear_sklen ▸ hn.symm)

/-- Settles O24: the state that `CLR` leaves is the cleared one, and the rest is what a cleared block shows. -/
theorem clrGivesTheResetState : Obligations.ClrGivesTheResetState := by
  refine ⟨by decide, exec_clr, exec_clr _, ?_⟩
  intro s t ht
  obtain rfl := eq_of_exec ht (exec_clr s)
  exact ⟨s.clear_status, fun off => readReg_clear s (regAt off), exec_clear_of_schedNeeded s rfl nofun,
    exec_clear_of_schedNeeded s rfl nofun⟩

end Sys2Proof.Machine
end

section
/-! SUPPORT. Errors and error mode (spec/60_exceptions.md R200 to R208): what a command word can do outside error mode,
what a command needs to be repeated, and where a step can change `ERR`. The five obligations are settled from these at
the end. -/

namespace Sys2Proof.Machine

/-! ### A command word outside error mode -/

/-- All that a command word can do outside error mode: it is reserved and raises `IllegalCommand`, it is a block command
whose schedule is not held and raises `InvalidLength`, or it is carried out with no error (R206). -/
theorem execute_cases_of_normal {w : Word} {s t : State} (herr : s.err = none) (h : execute w s = .next t) :
    (decode w = none ∧ t = s.raise .illegalCommand) ∨
    (∃ i n, decode w = some i ∧ schedNeeded i = some n ∧ s.sklen ≠ n ∧ t = s.raise .invalidLength) ∨
    (∃ i, decode w = some i ∧ (∀ n, schedNeeded i = some n → s.sklen = n) ∧ exec i s = .next t ∧
      t.err = none) := by
  cases hdec : decode w with
  | none =>
    rw [execute_of_reserved_of_normal hdec herr] at h
    exact .inl ⟨rfl, (Host.Outcome.next.inj h).symm⟩
  | some i =>
    rw [execute_of_decode s hdec] at h
    by_cases hlen : ∀ n, schedNeeded i = some n → s.sklen = n
    · obtain ⟨u, hu, huerr⟩ := exec_err_eq_none (wellFormed_of_decode hdec) herr hlen
      exact .inr (.inr ⟨i, rfl, hlen, h, eq_of_exec h hu ▸ huerr⟩)
    · push Not at hlen
      obtain ⟨n, hi, hne⟩ := hlen
      exact .inr (.inl ⟨i, n, rfl, hi, hne, eq_of_exec h (exec_of_sklen_ne herr hi hne)⟩)

/-- A decoded command whose length precondition holds is carried out with no error (R82, R204). -/
theorem execute_err_eq_none {w : Word} {i : Instr} {s : State} (herr : s.err = none) (hdec : decode w = some i)
    (hlen : ∀ n, schedNeeded i = some n → s.sklen = n) : ∃ t, execute w s = .next t ∧ t.err = none := by
  rw [execute_of_decode s hdec]
  exact exec_err_eq_none (wellFormed_of_decode hdec) herr hlen

/-- Only the block commands need a schedule length (R202). -/
theorem schedNeeded_of_not_block {i : Instr} (h : isBlock i = false) : schedNeeded i = none := by
  cases i
  case crypt1 | crypt3 => cases h
  all_goals rfl

theorem cryptWith_sklen (len : SchedLen) (f : State → Block) (s : State) : (cryptWith len f s).sklen = s.sklen := by
  by_cases h : s.sklen = len
  · rw [cryptWith_of_len f h, State.setDout_sklen]
  · rw [cryptWith_of_ne f h, State.raise_sklen]

/-- A block command leaves the schedule length it needs as it was, so it can be repeated (R204). -/
theorem exec_sklen_of_schedNeeded {i : Instr} {n : SchedLen} {s t : State} (hi : schedNeeded i = some n)
    (herr : s.err = none) (h : exec i s = .next t) : t.sklen = s.sklen := by
  cases i
  case crypt1 | crypt3 =>
    simp only [exec_crypt1, exec_crypt3, inNormalMode_of_normal _ herr] at h
    rw [← Host.Outcome.next.inj h, cryptWith_sklen]
  all_goals cases hi

/-- The one word of `CLR` (R77). -/
theorem eq_one_of_decode_clr {w : Word} (h : decode w = some .clr) : w = 0x00000001 := by
  simpa [definedCommands] using (decode_eq_some_iff w .clr).mp h

theorem decode_one : decode 0x00000001 = some .clr := by decide

/-- `CLR` and a reset leave the block at its reset values (R190, R220). -/
theorem sameBlock_reset_clear (s : State) : SameBlock State.reset s.clear := rfl

/-! ### A step and `ERR` -/

/-- A step on a pending read of the window. -/
theorem step_read {s : State} {off : Nat} {rest : List HostEvent} (hwin : inWindow off = true)
    (hp : s.pending = .read off .w32 :: rest) :
    step s = .next { s with pending := rest, reads := s.reads ++ [regRead s off] } := by
  rw [step_event hp, perform, hostRead_of_defined _ hwin, Int.toNat_natCast]
  simp only [regRead]
  cases regAt off <;> rfl

/-- A step on a pending write to the window. -/
theorem step_write {s : State} {off : Nat} {v : Word} {rest : List HostEvent} (hwin : inWindow off = true)
    (hp : s.pending = .write off (.u32 v) :: rest) : step s = regWrite off v { s with pending := rest } := by
  rw [step_event hp, perform, hostWrite_of_defined _ _ hwin, Int.toNat_natCast]

/-- A step on a pending write of `CMD`. -/
theorem step_command {s : State} {w : Word} {rest : List HostEvent} (hp : s.pending = .write 0x000 (.u32 w) :: rest) :
    step s = execute w { s with pending := rest } :=
  step_write (off := 0x000) rfl hp

theorem step_reset {s : State} {rest : List HostEvent} (hp : s.pending = .reset :: rest) :
    step s = .next (State.clear { s with pending := rest }) :=
  step_event hp

/-- No register but `CMD` changes `ERR` when it is written (R200). -/
theorem writeReg_err {r : Reg} {v : Word} {s t : State} (hcmd : r ≠ .cmd) (h : writeReg r v s = .next t) :
    t.err = s.err := by
  cases r with
  | cmd => exact absurd rfl hcmd
  | keyw j => exact Host.Outcome.next.inj h ▸ State.setKey_err _ s
  | dinw j => exact Host.Outcome.next.inj h ▸ State.setDin_err _ s
  | status | doutw _ | skw _ | scrw _ | reserved => exact Host.Outcome.next.inj h ▸ rfl

theorem regWrite_err {off : Nat} {v : Word} {s t : State} (hcmd : off ≠ 0x000) (h : regWrite off v s = .next t) :
    t.err = s.err :=
  writeReg_err (mt (regAt_eq_cmd_iff off).mp hcmd) h

/-- All that can become of `ERR` in a step: it stays, a reset clears the block, or a command word decides (R200). -/
theorem step_err_cases {s t : State} (h : step s = .next t) :
    t.err = s.err ∨
    (∃ rest, s.pending = .reset :: rest ∧ t = State.clear { s with pending := rest }) ∨
    (∃ w rest, s.pending = .write 0x000 (.u32 w) :: rest ∧ execute w { s with pending := rest } = .next t) := by
  obtain ⟨-, rfl⟩ | ⟨e, rest, hp, ⟨off, rfl, hwin, rfl⟩ | ⟨off, v, rfl, hwin, hwrite⟩ | ⟨rfl, rfl⟩⟩ := step_cases h
  · exact .inl rfl
  · exact .inl rfl
  · by_cases hcmd : off = 0x000
    · subst hcmd
      exact .inr (.inr ⟨v, rest, hp, hwrite⟩)
    · have hnonneg := (inWindow_iff off).mp hwin
      exact .inl (regWrite_err (s := { s with pending := rest }) (by omega) hwrite)
  · exact .inr (.inl ⟨rest, hp, rfl⟩)

/-- Outside error mode a step that is no command stays outside it (R200). -/
theorem step_err_of_not_command {s t : State} (hcmd : ∀ w rest, s.pending ≠ .write 0x000 (.u32 w) :: rest)
    (herr : s.err = none) (h : step s = .next t) : t.err = none := by
  obtain hsame | ⟨rest, -, rfl⟩ | ⟨w, rest, hp, -⟩ := step_err_cases h
  · exact hsame.trans herr
  · exact State.clear_err _
  · exact absurd hp (hcmd w rest)

/-! ### Buffer writes in a step -/

/-- A step on a pending write of a word of `KEY` (spec/20_memory.md R52). -/
theorem step_write_key {s : State} {j : Fin 6} {v : Word} {rest : List HostEvent}
    (hp : s.pending = .write (0x010 + 4 * j.val : Nat) (.u32 v) :: rest) :
    step s = .next (State.setKey (setWordAt s.key j.val v) { s with pending := rest }) :=
  (step_write ((inWindow_natCast _).mpr (by omega)) hp).trans (regWrite_of_offset (r := .keyw j) v _ rfl)

/-- A step on a pending write of a word of `DIN` (spec/20_memory.md R52). -/
theorem step_write_din {s : State} {j : Fin 2} {v : Word} {rest : List HostEvent}
    (hp : s.pending = .write (0x030 + 4 * j.val : Nat) (.u32 v) :: rest) :
    step s = .next (State.setDin (setWordAt s.din j.val v) { s with pending := rest }) :=
  (step_write ((inWindow_natCast _).mpr (by omega)) hp).trans (regWrite_of_offset (r := .dinw j) v _ rfl)

/-! ### The obligations of the exceptions -/

/-- Settles O7: a command word from the error-mode test, the other accesses from the step on a read or a write. -/
theorem errorModeIgnoresEverythingButClr : Obligations.ErrorModeIgnoresEverythingButClr := by
  intro s e rest herr
  have hmode : s.err ≠ none := herr ▸ Option.some_ne_none e
  refine ⟨?_, ?_, fun off => step_read, fun off v hwin _ => step_write hwin, ?_, ?_⟩
  · intro w hw hp
    rw [step_command hp]
    exact execute_of_error hmode (mt eq_one_of_decode_clr hw)
  · intro hp
    rw [step_command hp, execute_of_decode _ decode_one, exec_clr, State.clear_eq_reset]
  · intro j v hp
    refine ⟨_, step_write_key hp, rfl, ?_, fun i => setWordAt_getElem s.key j.val v i.val i.isLt⟩
    rw [regRead_of_offset (r := .keyw j) _ rfl]
    exact wordAt_setWordAt_same s.key j.val v _
  · intro j v hp
    refine ⟨_, step_write_din hp, rfl, ?_, fun i => setWordAt_getElem s.din j.val v i.val i.isLt⟩
    rw [regRead_of_offset (r := .dinw j) _ rfl]
    exact wordAt_setWordAt_same s.din j.val v _

/-- Settles O8: of the three things a command word can do, the two that latch an error raise it and do nothing else. -/
theorem errorEntryWritesOnlyErr : Obligations.ErrorEntryWritesOnlyErr := by
  refine ⟨fun w s t e herr h ht => ?_, rfl, rfl⟩
  obtain ⟨-, rfl⟩ | ⟨i, n, -, -, -, rfl⟩ | ⟨i, -, -, -, hnone⟩ := execute_cases_of_normal herr h
  · rw [← ht]; rfl
  · rw [← ht]; rfl
  · rw [hnone] at ht; cases ht

/-- Settles O9: each block command runs with the length it needs and raises `InvalidLength` with the two others. -/
theorem blockCommandsNeedTheirScheduleLength : Obligations.BlockCommandsNeedTheirScheduleLength := by
  refine ⟨fun s herr => ⟨fun hlen => ?_, fun hlen => ?_, fun hlen => ?_, fun hlen => ?_, fun hlen => ?_,
    fun hlen => ?_⟩, rfl⟩
  · exact exec_of_sklen_ne herr rfl (hlen ▸ nofun)
  · exact ⟨_, exec_crypt1_of_single herr hlen, herr⟩
  · exact exec_of_sklen_ne herr rfl (hlen ▸ nofun)
  · exact exec_of_sklen_ne herr rfl (hlen ▸ nofun)
  · exact exec_of_sklen_ne herr rfl (hlen ▸ nofun)
  · exact ⟨_, exec_crypt3_of_cascade herr hlen, herr⟩

/-- Settles O10: a step changes `ERR` only by a command word, whose causes are the two of `execute_cases_of_normal`; a
command carried out keeps what it needs, and the other accesses are no commands. -/
theorem errorsComeOnlyFromCommandWrites : Obligations.ErrorsComeOnlyFromCommandWrites := by
  refine ⟨?_, ?_, ?_, ?_, fun s t => step_err_of_not_command, rfl, rfl, rfl⟩
  · intro s t e herr h ht
    obtain hsame | ⟨rest, -, rfl⟩ | ⟨w, rest, hp, hexec⟩ := step_err_cases h
    · rw [hsame, herr] at ht; cases ht
    · rw [State.clear_err] at ht; cases ht
    · refine ⟨w, rest, hp, ?_⟩
      have hcases := execute_cases_of_normal (s := { s with pending := rest }) herr hexec
      obtain ⟨hdec, rfl⟩ | ⟨i, n, hdec, hi, hlen, rfl⟩ | ⟨i, -, -, -, hnone⟩ := hcases
      · exact .inl ⟨(Option.some.inj ht).symm, hdec⟩
      · exact .inr ⟨(Option.some.inj ht).symm, i, n, hdec, hi, hlen⟩
      · rw [hnone] at ht; cases ht
  · intro w i s herr hdec hblock
    exact execute_err_eq_none herr hdec (by simp [schedNeeded_of_not_block hblock])
  · intro w s t herr h ht
    obtain ⟨-, rfl⟩ | ⟨i, n, -, -, -, rfl⟩ | ⟨i, hdec, hlen, hexec, -⟩ := execute_cases_of_normal herr h
    · cases ht
    · cases ht
    · exact execute_err_eq_none ht hdec fun n hi => (exec_sklen_of_schedNeeded hi herr hexec).trans (hlen n hi)
  · rintro s off rest hwin herr (hp | ⟨hcmd, v, hp⟩)
    · exact ⟨_, step_read hwin hp, herr⟩
    · obtain ⟨t, ht⟩ := writeReg_completes (regAt off) v { s with pending := rest }
      exact ⟨t, (step_write hwin hp).trans ht, (regWrite_err hcmd ht).trans herr⟩

/-- Settles O11: a step that changes `ERR` is a reset or a command word, and in error mode only that of `CLR` acts. -/
theorem errorModeIsLeftOnlyByClrOrReset : Obligations.ErrorModeIsLeftOnlyByClrOrReset := by
  intro s e herr
  have hmode : s.err ≠ none := herr ▸ Option.some_ne_none e
  refine ⟨fun t h => ?_, ?_⟩
  · obtain hsame | ⟨rest, hp, rfl⟩ | ⟨w, rest, hp, hexec⟩ := step_err_cases h
    · exact .inl (hsame.trans herr)
    · exact .inr ⟨sameBlock_reset_clear _, rest, .inr hp⟩
    · by_cases hclr : decode w = some .clr
      · rw [execute_of_decode _ hclr, exec_clr] at hexec
        obtain rfl := Host.Outcome.next.inj hexec
        exact .inr ⟨sameBlock_reset_clear _, rest, .inl (eq_one_of_decode_clr hclr ▸ hp)⟩
      · rw [execute_of_error (s := { s with pending := rest }) hmode hclr] at hexec
        obtain rfl := Host.Outcome.next.inj hexec
        exact .inl herr
  · rintro rest (hp | hp)
    · refine ⟨_, ?_, sameBlock_reset_clear { s with pending := rest }⟩
      rw [step_command hp, execute_of_decode _ decode_one, exec_clr]
    · exact ⟨_, step_reset hp, sameBlock_reset_clear _⟩

end Sys2Proof.Machine
end

section
/-! SUPPORT. The encoder against the decoder (spec/30_encoding.md R72 to R77), and the step on a command word
(R82): a well-formed command's encoding is its row of the opcode table, where the decoder finds it. -/

namespace Sys2Proof.Machine

theorem encode_of_mem_definedCommands : ∀ p ∈ definedCommands, encode p.2 = p.1 := by decide

/-- Every well-formed command has its row in the opcode table, each operand value its own (R77). -/
theorem mem_definedCommands_of_wellFormed {i : Instr} (hi : i.wellFormed = true) : (encode i, i) ∈ definedCommands := by
  cases i with
  | clr | ks1E | ks2E | ks3E | ks1D | ks2D | ks3D | crypt1 | crypt3 => decide
  | parset n | parchk n | weakchk n =>
    obtain ⟨k, rfl⟩ := wellFormed_slot n hi
    revert k
    decide

/-- The decoder reads back what the encoder writes. -/
theorem decode_encode {i : Instr} (hi : i.wellFormed = true) : decode (encode i) = some i :=
  (decode_eq_some_iff _ _).mpr (mem_definedCommands_of_wellFormed hi)

/-- Settles O3: one way each row of the table is the encoding of its command, the other way each well-formed command
has a row. -/
theorem decodeInvertsEncode : Obligations.DecodeInvertsEncode := by
  refine fun w i => ⟨fun h => ⟨wellFormed_of_decode h, ?_⟩, fun ⟨hi, hw⟩ => hw ▸ decode_encode hi⟩
  exact encode_of_mem_definedCommands (w, i) ((decode_eq_some_iff w i).mp h)

/-- Settles O4: each of the seven words is a row of the opcode table. -/
theorem specWordsDecodeToTheirCommands : Obligations.SpecWordsDecodeToTheirCommands := by
  unfold Obligations.SpecWordsDecodeToTheirCommands
  simp only [decode_eq_some_iff]
  decide

/-- Settles O5: the step on a write of `CMD` is `Execute`, which runs the decoded command. -/
theorem stepRunsTheDecodedCommand : Obligations.StepRunsTheDecodedCommand := by
  refine ⟨fun s w i rest hp hdec => ?_, fun s nbits w i hdec => ?_⟩
  · rw [step_command hp, execute_of_decode _ hdec]
  · exact (step_command (State.withNext_pending _ s)).trans (execute_of_decode s hdec)

end Sys2Proof.Machine
end

section
/-! SUPPORT. The frame of every command (spec/30_encoding.md R83, spec/10_state.md R39). What a command does to the
state is said once, by the group it belongs to; which fields and which registers of the window it leaves unchanged is
read off that. The two frame obligations are settled from these at the end. -/

namespace Sys2Proof.Machine

/-! ### The effect of a command, by its group -/

/-- All that a command can do to a state. -/
inductive CommandEffect (s : State) : Instr → State → Prop
  /-- `CLR` acts in either mode (spec/46_context_control.md R190). -/
  | cleared : CommandEffect s .clr s.clear
  /-- In error mode every other command is ignored (spec/60_exceptions.md R207). -/
  | ignored {i : Instr} (hclr : i ≠ .clr) (herr : s.err ≠ none) : CommandEffect s i s
  /-- A hygiene command with the reserved slot number (spec/45_key_hygiene.md R183 to R185). -/
  | reservedSlot {i : Instr} (herr : s.err = none) (hi : i.wellFormed = false) :
      CommandEffect s i (s.raise .illegalCommand)
  /-- A block command whose schedule length is not held (spec/60_exceptions.md R202). -/
  | wrongLength {i : Instr} {n : SchedLen} (herr : s.err = none) (hi : schedNeeded i = some n) (hlen : s.sklen ≠ n) :
      CommandEffect s i (s.raise .invalidLength)
  /-- A key-schedule command writes a context built from some keys (R25). -/
  | context {i : Instr} {sk : Cascade} {len : SchedLen} {dir : Dir} (herr : s.err = none)
      (hi : isKeySchedule i = true) (hbuilt : (s.setContext sk len dir).ContextBuilt) :
      CommandEffect s i (s.setContext sk len dir)
  /-- A block command that has its schedule length writes the output block (R30). -/
  | output {i : Instr} (b : Block) (herr : s.err = none) (hi : schedNeeded i = some s.sklen) :
      CommandEffect s i (s.setDout b)
  /-- A predicate command writes the flag (R31). -/
  | flagged {i : Instr} (b : Bool) (herr : s.err = none) (hi : isPredicate i = true) : CommandEffect s i (s.setFlag b)
  /-- `PARSET` writes its slot (spec/45_key_hygiene.md R183). -/
  | forced (k : Fin 3) (herr : s.err = none) :
      CommandEffect s (.parset (slotBits k)) (s.setSlot k (setOddParity (s.slot k)))

/-! The contexts the six key-schedule commands write are built from keys (R25). -/

theorem contextBuilt_ks1E (s : State) (k : Key) :
    (s.setContext (singleContext (generateSchedule k)) .single .enc).ContextBuilt := ⟨k, rfl⟩

theorem contextBuilt_ks1D (s : State) (k : Key) :
    (s.setContext (singleContext (reversePairs (generateSchedule k))) .single .dec).ContextBuilt := ⟨k, rfl⟩

theorem contextBuilt_ks3E (s : State) (k1 k2 k3 : Key) :
    (s.setContext (compose3Enc k1 k2 k3) .cascade .enc).ContextBuilt := ⟨k1, k2, k3, rfl⟩

theorem contextBuilt_ks3D (s : State) (k1 k2 k3 : Key) :
    (s.setContext (compose3Dec k1 k2 k3) .cascade .dec).ContextBuilt := ⟨k1, k2, k3, rfl⟩

theorem contextBuilt_ks2E (s : State) (k1 k2 : Key) : (s.setContext (compose2Enc k1 k2) .cascade .enc).ContextBuilt :=
  compose2Enc_eq_compose3Enc k1 k2 ▸ contextBuilt_ks3E s k1 k2 k1

theorem contextBuilt_ks2D (s : State) (k1 k2 : Key) : (s.setContext (compose2Dec k1 k2) .cascade .dec).ContextBuilt :=
  compose2Dec_eq_compose3Dec k1 k2 ▸ contextBuilt_ks3D s k1 k2 k1

/-- The error-mode test leaves the operation itself to look at. -/
theorem commandEffect_of_guarded {i : Instr} {s t : State} {op : State → State} (hclr : i ≠ .clr)
    (hexec : exec i s = inNormalMode s op) (h : exec i s = .next t)
    (hop : s.err = none → CommandEffect s i (op s)) : CommandEffect s i t := by
  obtain ⟨herr, rfl⟩ | ⟨herr, rfl⟩ := inNormalMode_eq_next.mp (hexec.symm.trans h)
  · exact hop herr
  · exact .ignored hclr herr

theorem commandEffect_cryptWith {i : Instr} {len : SchedLen} (f : State → Block) {s : State} (herr : s.err = none)
    (hi : schedNeeded i = some len) : CommandEffect s i (cryptWith len f s) := by
  by_cases hlen : s.sklen = len
  · rw [cryptWith_of_len f hlen]
    exact .output _ herr (hlen ▸ hi)
  · rw [cryptWith_of_ne f hlen]
    exact .wrongLength herr hi hlen

theorem commandEffect_onSlot {i : Instr} {n : BitVec 2} {op : Fin 3 → State → State} {s : State}
    (herr : s.err = none) (hi : i.wellFormed = slotWellFormed n)
    (hop : ∀ k, n = slotBits k → CommandEffect s i (op k s)) :
    CommandEffect s i (onSlot n op s) := by
  obtain ⟨k, rfl⟩ | rfl := slotBits_or_three n
  · rw [onSlot_slotBits]
    exact hop k rfl
  · exact .reservedSlot herr hi

/-- Every command's effect is one of those listed. -/
theorem commandEffect_of_exec {i : Instr} {s t : State} (h : exec i s = .next t) : CommandEffect s i t := by
  cases i with
  | clr => exact eq_of_exec h (exec_clr s) ▸ .cleared
  | ks1E => exact commandEffect_of_guarded nofun (exec_ks1E s) h fun herr => .context herr rfl (contextBuilt_ks1E ..)
  | ks1D => exact commandEffect_of_guarded nofun (exec_ks1D s) h fun herr => .context herr rfl (contextBuilt_ks1D ..)
  | ks2E => exact commandEffect_of_guarded nofun (exec_ks2E s) h fun herr => .context herr rfl (contextBuilt_ks2E ..)
  | ks2D => exact commandEffect_of_guarded nofun (exec_ks2D s) h fun herr => .context herr rfl (contextBuilt_ks2D ..)
  | ks3E => exact commandEffect_of_guarded nofun (exec_ks3E s) h fun herr => .context herr rfl (contextBuilt_ks3E ..)
  | ks3D => exact commandEffect_of_guarded nofun (exec_ks3D s) h fun herr => .context herr rfl (contextBuilt_ks3D ..)
  | crypt1 => exact commandEffect_of_guarded nofun (exec_crypt1 s) h fun herr => commandEffect_cryptWith _ herr rfl
  | crypt3 => exact commandEffect_of_guarded nofun (exec_crypt3 s) h fun herr => commandEffect_cryptWith _ herr rfl
  | parset n =>
    exact commandEffect_of_guarded nofun (exec_parset n s) h fun herr =>
      commandEffect_onSlot herr rfl fun k hk => hk ▸ .forced k herr
  | parchk n =>
    exact commandEffect_of_guarded nofun (exec_parchk n s) h fun herr =>
      commandEffect_onSlot herr rfl fun k _ => .flagged _ herr rfl
  | weakchk n =>
    exact commandEffect_of_guarded nofun (exec_weakchk n s) h fun herr =>
      commandEffect_onSlot herr rfl fun k _ => .flagged _ herr rfl

/-! ### Frame by field -/

theorem isBlock_of_schedNeeded {i : Instr} {n : SchedLen} (h : schedNeeded i = some n) : isBlock i = true := by
  cases hi : isBlock i with
  | true => rfl
  | false => rw [schedNeeded_of_not_block hi] at h; cases h

/-- Settles O25: each kind of effect writes one field, or the fields of the context, or latches an error. -/
theorem commandsChangeOnlyTheirState : Obligations.CommandsChangeOnlyTheirState := by
  intro i s t h hclr
  cases commandEffect_of_exec h with
  | cleared => exact absurd rfl hclr
  | ignored => simp
  | reservedSlot herr | wrongLength herr => exact ⟨rfl, rfl, rfl, .inr ⟨herr, _, rfl⟩, by simp⟩
  | context _ hi => simp [hi]
  | output _ _ hi => simp [isBlock_of_schedNeeded hi]
  | flagged _ _ hi => simp [hi]
  | forced k => simp

/-! ### Frame by register -/

/-- The offsets at which the register map has a register (R51). -/
def Reg.Covers : Reg → Nat → Prop
  | .cmd, off => off = 0x000
  | .status, off => off = 0x004
  | .keyw j, off => 0x010 ≤ off ∧ off ≤ 0x024 ∧ j.val = (off - 0x010) / 4
  | .dinw j, off => 0x030 ≤ off ∧ off ≤ 0x034 ∧ j.val = (off - 0x030) / 4
  | .doutw j, off => 0x038 ≤ off ∧ off ≤ 0x03C ∧ j.val = (off - 0x038) / 4
  | .skw i, off => 0x200 ≤ off ∧ off ≤ 0x37C ∧ i.val = (off - 0x200) / 4
  | .scrw i, off => 0x400 ≤ off ∧ off ≤ 0x57C ∧ i.val = (off - 0x400) / 4
  | .reserved, _ => True

theorem regAt_covers (off : Nat) : (regAt off).Covers off := by
  unfold regAt
  split_ifs <;> simp_all [Reg.Covers]

/-- Two states show the same at an offset if they do so in every register that can stand there. -/
theorem regRead_congr {s t : State} {off : Nat} (h : ∀ r : Reg, r.Covers off → readReg t r = readReg s r) :
    regRead t off = regRead s off :=
  h _ (regAt_covers off)

theorem regRead_setContext (sk : Cascade) (len : SchedLen) (dir : Dir) (s : State) {off : Nat} (hstatus : off ≠ 0x004)
    (hsk : ¬ (0x200 ≤ off ∧ off ≤ 0x37C)) (hscr : ¬ (0x400 ≤ off ∧ off ≤ 0x57C)) :
    regRead (s.setContext sk len dir) off = regRead s off :=
  regRead_congr fun r hr => by
    cases r with
    | status => exact absurd hr hstatus
    | skw i =>
      obtain ⟨hlow, hhigh, -⟩ := hr
      exact absurd ⟨hlow, hhigh⟩ hsk
    | scrw i =>
      obtain ⟨hlow, hhigh, -⟩ := hr
      exact absurd ⟨hlow, hhigh⟩ hscr
    | cmd | keyw | dinw | doutw | reserved => rfl

theorem regRead_setDout (b : Block) (s : State) {off : Nat} (hdout : ¬ (0x038 ≤ off ∧ off ≤ 0x03C)) :
    regRead (s.setDout b) off = regRead s off :=
  regRead_congr fun r hr => by
    cases r with
    | doutw j =>
      obtain ⟨hlow, hhigh, -⟩ := hr
      exact absurd ⟨hlow, hhigh⟩ hdout
    | cmd | status | keyw | dinw | skw | scrw | reserved => rfl

theorem regRead_setFlag (b : Bool) (s : State) {off : Nat} (hstatus : off ≠ 0x004) :
    regRead (s.setFlag b) off = regRead s off :=
  regRead_congr fun r hr => by
    cases r with
    | status => exact absurd hr hstatus
    | cmd | keyw | dinw | doutw | skw | scrw | reserved => rfl

theorem regRead_raise (e : CmdError) (s : State) {off : Nat} (hstatus : off ≠ 0x004) :
    regRead (s.raise e) off = regRead s off :=
  regRead_congr fun r hr => by
    cases r with
    | status => exact absurd hr hstatus
    | cmd | keyw | dinw | doutw | skw | scrw | reserved => rfl

/-- A slot write is seen through the two registers of the slot alone (R23, R51). -/
theorem regRead_setSlot (k : Fin 3) (v : Key) (s : State) {off : Nat}
    (hslot : ¬ (0x010 + 8 * k.val ≤ off ∧ off < 0x018 + 8 * k.val)) : regRead (s.setSlot k v) off = regRead s off :=
  regRead_congr fun r hr => by
    cases r with
    | keyw j =>
      obtain ⟨hlow, hhigh, hj⟩ := hr
      -- Bytes `4j` to `4j + 3` lie in slot `j / 2`.
      have hbyte0 : 4 * j.val / 8 ≠ k.val := by omega
      have hbyte : ∀ b < 4, (4 * j.val + b) / 8 ≠ k.val := by omega
      simp [readReg, wordAt, hbyte0, hbyte]
    | cmd | status | dinw | doutw | skw | scrw | reserved => simp [readReg, State.status]

/-- `FLAG` is bit 0 of `STATUS` and no other (R33). -/
theorem setFlag_status_and_mask (b : Bool) (s : State) :
    (s.setFlag b).status &&& 0xFFFFFFFE = s.status &&& 0xFFFFFFFE := by
  have hflag : ∀ f : Bool, (BitVec.ofBool f).setWidth 32 &&& (0xFFFFFFFE : Word) = 0#32 := by decide
  simp only [State.status, State.setFlag_flag, State.setFlag_sklen, State.setFlag_dir, State.setFlag_err,
    BitVec.and_or_distrib_right, hflag]

theorem not_block_of_keySchedule {i : Instr} (h : isKeySchedule i = true) : isBlock i = false := by
  cases i
  case ks1E | ks2E | ks3E | ks1D | ks2D | ks3D => rfl
  all_goals cases h

theorem not_predicate_of_keySchedule {i : Instr} (h : isKeySchedule i = true) : isPredicate i = false := by
  cases i
  case ks1E | ks2E | ks3E | ks1D | ks2D | ks3D => rfl
  all_goals cases h

theorem not_predicate_of_block {i : Instr} (h : isBlock i = true) : isPredicate i = false := by
  cases i
  case crypt1 | crypt3 => rfl
  all_goals cases h

/-- Settles O26: what a command of each group writes is shown by the registers excepted, and by no other. -/
theorem commandsLeaveOtherRegistersUnchanged : Obligations.CommandsLeaveOtherRegistersUnchanged := by
  refine ⟨?_, ?_, ?_, ?_⟩
  · intro i s t off hi h hstatus hsk hscr
    cases commandEffect_of_exec h with
    | ignored => rfl
    | reservedSlot | wrongLength => exact regRead_raise _ s hstatus
    | context => exact regRead_setContext _ _ _ s hstatus hsk hscr
    | output _ _ hneed => cases (isBlock_of_schedNeeded hneed).symm.trans (not_block_of_keySchedule hi)
    | flagged b => exact regRead_setFlag b s hstatus
    | cleared | forced => cases hi
  · intro i s t off hi h hstatus hdout
    cases commandEffect_of_exec h with
    | ignored => rfl
    | reservedSlot | wrongLength => exact regRead_raise _ s hstatus
    | context _ hks => cases hi.symm.trans (not_block_of_keySchedule hks)
    | output b => exact regRead_setDout b s hdout
    | flagged b => exact regRead_setFlag b s hstatus
    | cleared | forced => cases hi
  · intro i s t off hi hwf h
    cases commandEffect_of_exec h with
    | ignored => exact ⟨fun _ => rfl, rfl⟩
    | reservedSlot _ hill => cases hwf.symm.trans hill
    | wrongLength _ hneed | output _ _ hneed =>
      cases hi.symm.trans (not_predicate_of_block (isBlock_of_schedNeeded hneed))
    | context _ hks => cases hi.symm.trans (not_predicate_of_keySchedule hks)
    | flagged b => exact ⟨fun hstatus => regRead_setFlag b s hstatus, setFlag_status_and_mask b s⟩
    | cleared | forced => cases hi
  · intro k s t off h hslot
    by_cases herr : s.err = none
    · obtain rfl := eq_of_exec h (exec_parset_of_normal k herr)
      exact regRead_setSlot k _ s hslot
    · obtain rfl := eq_of_exec h (exec_of_error nofun herr)
      rfl

end Sys2Proof.Machine
end

section
/-! SUPPORT. What a step can do to the block, and the invariants of the block (spec/10_state.md R37). The invariants
follow from two of them: the scratch is zero and the context was built from keys. The obligations on steps, reset and
invariants are settled from these at the end. -/

namespace Sys2Proof.Machine

/-! ### The effect of a step -/

/-- The two states differ at most in what the host writes (`KEY`, `DIN`), in `ERR`, and in the host's own lists. -/
def SameButInputs (s t : State) : Prop :=
  t = { s with key := t.key, din := t.din, err := t.err, pending := t.pending, reads := t.reads }

/-- A write of a register other than `CMD` writes at most `KEY` or `DIN` (spec/20_memory.md R52). -/
theorem writeReg_of_not_cmd {r : Reg} {v : Word} {s t : State} (hcmd : r ≠ .cmd) (h : writeReg r v s = .next t) :
    t = { s with key := t.key, din := t.din } := by
  cases r with
  | cmd => exact absurd rfl hcmd
  | keyw j =>
    rw [← Host.Outcome.next.inj h, State.setKey_key, State.setKey_din]
    rfl
  | dinw j =>
    rw [← Host.Outcome.next.inj h, State.setDin_key, State.setDin_din]
    rfl
  | status | doutw | skw | scrw | reserved =>
    obtain rfl := Host.Outcome.next.inj h
    rfl

/-- A reserved word latches at most an error (spec/30_encoding.md R78). -/
theorem execute_reserved_effect {w : Word} {s t : State} (hdec : decode w = none) (h : execute w s = .next t) :
    t = { s with err := t.err } := by
  rw [execute_of_reserved s hdec] at h
  obtain ⟨-, rfl⟩ | ⟨-, rfl⟩ := inNormalMode_eq_next.mp h <;> rfl

/-- All that a step can do to the block: a reset clears it, a command word has the effect of its command, and everything
else leaves the buffers of the commands alone. -/
theorem step_effect {s t : State} (h : step s = .next t) :
    SameButInputs s t ∨
    (∃ rest, s.pending = .reset :: rest ∧ t = State.clear { s with pending := rest }) ∨
    (∃ w i rest, s.pending = .write 0x000 (.u32 w) :: rest ∧ decode w = some i ∧
      CommandEffect { s with pending := rest } i t) := by
  obtain ⟨-, rfl⟩ | ⟨e, rest, hp, ⟨off, rfl, -, rfl⟩ | ⟨off, v, rfl, hwin, hwrite⟩ | ⟨rfl, rfl⟩⟩ := step_cases h
  · exact .inl rfl
  · exact .inl rfl
  · by_cases hcmd : off = 0x000
    · subst hcmd
      have hexec : execute v { s with pending := rest } = .next t := hwrite
      cases hdec : decode v with
      | none => exact .inl (by rw [SameButInputs, execute_reserved_effect hdec hexec])
      | some i =>
        rw [execute_of_decode _ hdec] at hexec
        exact .inr (.inr ⟨v, i, rest, hp, hdec, commandEffect_of_exec hexec⟩)
    · have hnonneg := (inWindow_iff off).mp hwin
      have hreg : regAt off.toNat ≠ .cmd := mt (regAt_eq_cmd_iff _).mp (by omega)
      exact .inl (by rw [SameButInputs, writeReg_of_not_cmd hreg hwrite])
  · exact .inr (.inl ⟨rest, hp, rfl⟩)

/-! ### Which steps change a buffer -/

/-- A part `f` of the block that no input is part of changes only by a reset or by a command that can change it. -/
theorem step_changes_by_command {α : Type} {f : State → α} {changes : State → Instr → Prop} {s t : State}
    (hinputs : ∀ {s t}, SameButInputs s t → f t = f s)
    (heffect : ∀ {s i t}, CommandEffect s i t → f t = f s ∨ changes s i)
    (h : step s = .next t) (hne : f t ≠ f s) :
    ∃ rest, s.pending = .reset :: rest ∨
      ∃ w i, s.pending = .write 0x000 (.u32 w) :: rest ∧ decode w = some i ∧
        changes { s with pending := rest } i := by
  obtain hsame | ⟨rest, hp, -⟩ | ⟨w, i, rest, hp, hdec, hi⟩ := step_effect h
  · exact absurd (hinputs hsame) hne
  · exact ⟨rest, .inl hp⟩
  · have hhost : f { s with pending := rest } = f s := hinputs rfl
    obtain hkeep | hchange := heffect hi
    · exact absurd (hkeep.trans hhost) hne
    · exact ⟨rest, .inr ⟨w, i, hp, hdec, hchange⟩⟩

theorem commandEffect_context {s : State} {i : Instr} {t : State} (h : CommandEffect s i t) :
    (t.sk, t.sklen, t.dir) = (s.sk, s.sklen, s.dir) ∨ (i = .clr ∨ (isKeySchedule i = true ∧ s.err = none)) := by
  cases h with
  | cleared => exact .inr (.inl rfl)
  | context herr hi => exact .inr (.inr ⟨hi, herr⟩)
  | ignored | reservedSlot | wrongLength | output | flagged | forced => exact .inl (by simp)

theorem commandEffect_dout {s : State} {i : Instr} {t : State} (h : CommandEffect s i t) :
    t.dout = s.dout ∨ (i = .clr ∨ (schedNeeded i = some s.sklen ∧ s.err = none)) := by
  cases h with
  | cleared => exact .inr (.inl rfl)
  | output b herr hi => exact .inr (.inr ⟨hi, herr⟩)
  | ignored | reservedSlot | wrongLength | context | flagged | forced => exact .inl (by simp)

theorem commandEffect_flag {s : State} {i : Instr} {t : State} (h : CommandEffect s i t) :
    t.flag = s.flag ∨ (i = .clr ∨ (isPredicate i = true ∧ s.err = none)) := by
  cases h with
  | cleared => exact .inr (.inl rfl)
  | flagged b herr hi => exact .inr (.inr ⟨hi, herr⟩)
  | ignored | reservedSlot | wrongLength | context | output | forced => exact .inl (by simp)

/-- Settles O27: the context, `DOUT` and `FLAG` are such parts of the block. -/
theorem stepChangesBuffersOnlyByTheirCommands : Obligations.StepChangesBuffersOnlyByTheirCommands := by
  intro s t h
  refine ⟨fun hne => ?_, fun hne => ?_, fun hne => ?_⟩
  · have hne' : (t.sk, t.sklen, t.dir) ≠ (s.sk, s.sklen, s.dir) := by
      simpa only [ne_eq, Prod.mk.injEq, not_and_or] using hne
    exact step_changes_by_command (f := fun s => (s.sk, s.sklen, s.dir)) (fun hsame => by rw [hsame])
      commandEffect_context h hne'
  · exact step_changes_by_command (f := State.dout) (fun hsame => by rw [hsame]) commandEffect_dout h hne
  · exact step_changes_by_command (f := State.flag) (fun hsame => by rw [hsame]) commandEffect_flag h hne

/-! ### The host's lists -/

theorem commandEffect_host {s : State} {i : Instr} {t : State} (h : CommandEffect s i t) :
    t.pending = s.pending ∧ t.reads = s.reads := by
  cases h <;> simp

/-- A register write, of `CMD` too, neither takes an event nor returns a value. -/
theorem regWrite_host {off : Nat} {v : Word} {s t : State} (h : regWrite off v s = .next t) :
    t.pending = s.pending ∧ t.reads = s.reads := by
  by_cases hcmd : regAt off = .cmd
  · have hexec : execute v s = .next t := by rwa [regWrite, hcmd] at h
    cases hdec : decode v with
    | none => rw [execute_reserved_effect hdec hexec]; exact ⟨rfl, rfl⟩
    | some i =>
      rw [execute_of_decode s hdec] at hexec
      exact commandEffect_host (commandEffect_of_exec hexec)
  · rw [writeReg_of_not_cmd hcmd h]
    exact ⟨rfl, rfl⟩

/-- Settles O12: the event comes off the front of the list whatever it is, a read alone returns a value, and each access
of the window completes. -/
theorem stepTakesTheOldestEvent : Obligations.StepTakesTheOldestEvent := by
  refine ⟨fun s t e rest hp h => ?_, ?_, fun s => step_idle⟩
  · obtain ⟨hnil, -⟩ | ⟨e', rest', hp', hevent⟩ := step_cases h
    · rw [hp] at hnil; cases hnil
    · obtain ⟨rfl, rfl⟩ := List.cons.inj (hp.symm.trans hp')
      obtain ⟨off, rfl, -, rfl⟩ | ⟨off, v, rfl, -, hwrite⟩ | ⟨rfl, rfl⟩ := hevent
      · exact ⟨rfl, _, rfl, rfl⟩
      · obtain ⟨hpending, hreads⟩ := regWrite_host hwrite
        exact ⟨hpending, [], by simpa using hreads, rfl⟩
      · exact ⟨rfl, [], by simp, rfl⟩
  · rintro s e rest hp (rfl | ⟨off, hwin, rfl | ⟨v, rfl⟩⟩)
    · exact ⟨_, step_reset hp⟩
    · exact ⟨_, step_read hwin hp⟩
    · rw [step_write hwin hp]
      exact writeReg_completes _ _ _

/-! ### Reset -/

/-- Settles O37: the step is `State.clear`, which is what `CLR` does. -/
theorem resetEventClearsTheBlock : Obligations.ResetEventClearsTheBlock := by
  intro s rest hp
  rw [step_reset hp]
  exact ⟨⟨_, rfl, sameBlock_reset_clear _, State.clear_err _, State.clear_sklen _, State.clear_status _⟩,
    (exec_clr _).symm⟩

/-! ### The fixed zero bits of a schedule (R37 item 5) -/

/-- The fixed bits of every word are zero. -/
def FixedZero {n : Nat} (v : Vector Word n) : Prop := ∀ i (hi : i < n), v[i] &&& fixedZeroBits = 0

theorem fixedZero_zeros (n : Nat) : FixedZero (zeros n : Vector Word n) := fun i hi => by
  rw [zeros_getElem, BitVec.zero_and]
  rfl

theorem fixedZero_generateSchedule (key : Key) : FixedZero (generateSchedule key) := fun j hj => by
  rw [generateSchedule_getElem, pc2_eq_packRoundKey]
  split
  · exact packRoundKey_even_fixed_zero _
  · exact packRoundKey_odd_fixed_zero _

theorem fixedZero_reversePairs {sched : Schedule} (h : FixedZero sched) : FixedZero (reversePairs sched) :=
  fun j hj => by
    rw [reversePairs_getElem]
    exact h _ _

theorem fixedZero_append {m n : Nat} {v : Vector Word m} {w : Vector Word n} (hv : FixedZero v) (hw : FixedZero w) :
    FixedZero (v ++ w) := fun i hi => by
  rw [Vector.getElem_append]
  split
  · exact hv _ _
  · exact hw _ _

/-! ### The invariants from a built context -/

/-- All that a built context can be (R25): none, or that of one key, or that of a cascade. -/
theorem contextBuilt_cases {s : State} (h : s.ContextBuilt) :
    (s.sklen = .empty ∧ s.dir = .enc ∧ s.sk = zeros 96) ∨
    (∃ sched, s.sklen = .single ∧ FixedZero sched ∧ s.sk = singleContext sched) ∨
    (s.sklen = .cascade ∧ FixedZero s.sk) := by
  have hgen := fixedZero_generateSchedule
  have hrev (k : Key) := fixedZero_reversePairs (hgen k)
  unfold State.ContextBuilt at h
  split at h
  · next hlen hdir => exact .inl ⟨hlen, hdir, h⟩
  · exact h.elim
  · next hlen hdir =>
    obtain ⟨k, hsk⟩ := h
    exact .inr (.inl ⟨_, hlen, hgen k, hsk⟩)
  · next hlen hdir =>
    obtain ⟨k, hsk⟩ := h
    exact .inr (.inl ⟨_, hlen, hrev k, hsk⟩)
  · next hlen hdir =>
    obtain ⟨k1, k2, k3, hsk⟩ := h
    exact .inr (.inr ⟨hlen, hsk ▸ fixedZero_append (fixedZero_append (hgen k1) (hrev k2)) (hgen k3)⟩)
  · next hlen hdir =>
    obtain ⟨k1, k2, k3, hsk⟩ := h
    exact .inr (.inr ⟨hlen, hsk ▸ fixedZero_append (fixedZero_append (hrev k3) (hgen k2)) (hrev k1)⟩)

/-- Items 3 to 5 of R37 follow from item 6. -/
theorem State.inv_iff (s : State) : s.Inv ↔ s.scr = zeros 96 ∧ s.ContextBuilt := by
  refine ⟨fun h => ⟨h.scratchZero, h.contextBuilt⟩, fun ⟨hscr, hbuilt⟩ => ?_⟩
  obtain ⟨hlen, hdir, hsk⟩ | ⟨sched, hlen, hfixed, hsk⟩ | ⟨hlen, hfixed⟩ := contextBuilt_cases hbuilt
  · have hfixed := hsk ▸ fixedZero_zeros 96
    exact ⟨hscr, fun _ => ⟨hdir, hsk⟩, by simp [hlen], fun i => hfixed i.val i.isLt, hbuilt⟩
  · have hfixed : FixedZero s.sk := hsk ▸ fixedZero_append hfixed (fixedZero_zeros 64)
    have hhigh (i : Fin 96) (hi : 32 ≤ i.val) : s.sk[i] = 0 := hsk ▸ singleContext_getElem_of_ge sched hi i.isLt
    exact ⟨hscr, by simp [hlen], fun _ => hhigh, fun i => hfixed i.val i.isLt, hbuilt⟩
  · exact ⟨hscr, by simp [hlen], by simp [hlen], fun i => hfixed i.val i.isLt, hbuilt⟩

theorem contextBuilt_clear (s : State) : s.clear.ContextBuilt := rfl

theorem inv_clear (s : State) : s.clear.Inv := s.clear.inv_iff.mpr ⟨s.clear_scr, contextBuilt_clear s⟩

/-- The invariants are about the scratch and the context alone. -/
theorem inv_congr {s t : State} (h : s.Inv) (hscr : t.scr = s.scr) (hsk : t.sk = s.sk) (hlen : t.sklen = s.sklen)
    (hdir : t.dir = s.dir) : t.Inv := by
  obtain ⟨hzero, hbuilt⟩ := s.inv_iff.mp h
  refine t.inv_iff.mpr ⟨hscr.trans hzero, ?_⟩
  rwa [State.ContextBuilt, hsk, hlen, hdir]

/-- Every command keeps the invariants: what it writes to the context is built from keys. -/
theorem commandEffect_inv {s : State} {i : Instr} {t : State} (h : CommandEffect s i t) (hinv : s.Inv) : t.Inv := by
  cases h with
  | cleared => exact inv_clear s
  | context _ _ hbuilt => exact (State.inv_iff _).mpr ⟨State.setContext_scr .., hbuilt⟩
  | ignored => exact hinv
  | reservedSlot | wrongLength | output | flagged | forced => apply inv_congr hinv <;> simp

/-- Settles O38: the reset state is a cleared one. -/
theorem invariantHoldsAtReset : Obligations.InvariantHoldsAtReset := inv_clear State.reset

/-- Settles O39: a step that is no reset and no command leaves scratch and context alone, and every command keeps the
invariants. -/
theorem everyStepKeepsTheInvariant : Obligations.EveryStepKeepsTheInvariant := by
  intro s t hinv h
  obtain hsame | ⟨rest, -, rfl⟩ | ⟨w, i, rest, -, -, heffect⟩ := step_effect h
  · rw [hsame]
    exact inv_congr hinv rfl rfl rfl rfl
  · exact inv_clear _
  · exact commandEffect_inv heffect (inv_congr hinv rfl rfl rfl rfl)

end Sys2Proof.Machine
end

section
/-! SUPPORT. What the result of a command depends on (spec/10_state.md R39, spec/70_reset_and_hazards.md R224): a block
command's on the schedule and the input block, a key-schedule command's on the key bits of the slots it reads. -/

namespace Sys2Proof.Machine

/-! ### Block commands -/

/-- The block that the block command for a schedule length puts out (spec/44_feistel_engine.md R165, R166). -/
def blockOutput : SchedLen → Cascade → Block → Block
  | .cascade, sk, din => processBlock3 sk din
  | .empty, sk, din | .single, sk, din => processBlock (segment sk 0) din

/-- A block command whose schedule length is held. -/
theorem exec_of_schedNeeded {i : Instr} {s : State} (herr : s.err = none) (hi : schedNeeded i = some s.sklen) :
    exec i s = .next (s.setDout (blockOutput s.sklen s.sk s.din)) := by
  cases i
  case crypt1 =>
    have hlen : s.sklen = .single := (Option.some.inj hi).symm
    rw [exec_crypt1_of_single herr hlen, hlen, blockOutput]
  case crypt3 =>
    have hlen : s.sklen = .cascade := (Option.some.inj hi).symm
    rw [exec_crypt3_of_cascade herr hlen, hlen, blockOutput]
  all_goals cases hi

/-- Two states that agree on the schedule and the input block give the same output block, and no error. -/
theorem exec_schedNeeded_congr {i : Instr} {s s' t t' : State} (herr : s.err = none) (herr' : s'.err = none)
    (hsk : s'.sk = s.sk) (hlen : s'.sklen = s.sklen) (hdin : s'.din = s.din) (hi : schedNeeded i = some s.sklen)
    (ht : exec i s = .next t) (ht' : exec i s' = .next t') : t'.dout = t.dout ∧ t'.err = none := by
  obtain rfl := eq_of_exec ht (exec_of_schedNeeded herr hi)
  obtain rfl := eq_of_exec ht' (exec_of_schedNeeded herr' (hlen ▸ hi))
  rw [State.setDout_dout, State.setDout_dout, State.setDout_err, hsk, hlen, hdin]
  exact ⟨rfl, herr'⟩

/-- Settles O28: the two output blocks are one function of what the states agree on. -/
theorem blockResultDependsOnScheduleAndInputOnly : Obligations.BlockResultDependsOnScheduleAndInputOnly :=
  fun _ _ _ _ _ herr herr' hsk hlen hdin hi ht ht' =>
    (exec_schedNeeded_congr herr herr' hsk.symm hlen.symm hdin.symm hi ht ht').1.symm

/-! ### New key bytes (R224) -/

theorem regAt_keyw {off : Nat} (hlow : 0x010 ≤ off) (hhigh : off ≤ 0x024) :
    regAt off = .keyw ⟨(off - 0x010) / 4, by omega⟩ := by
  simp (disch := omega) only [regAt, if_neg, dif_pos]

/-- A write of a `KEY` register changes the key buffer alone. -/
theorem regWrite_key {off : Nat} {v : Word} {s t : State} (hlow : 0x010 ≤ off) (hhigh : off ≤ 0x024)
    (h : regWrite off v s = .next t) : ∃ key, t = s.setKey key := by
  rw [regWrite, regAt_keyw hlow hhigh] at h
  exact ⟨_, (Host.Outcome.next.inj h).symm⟩

/-- `PARSET` of a slot changes the key buffer alone. -/
theorem exec_parset_key {n : BitVec 2} {s t : State} (hn : slotWellFormed n = true)
    (h : exec (.parset n) s = .next t) : ∃ key, t = s.setKey key := by
  obtain ⟨k, rfl⟩ := wellFormed_slot n hn
  by_cases herr : s.err = none
  · exact ⟨_, eq_of_exec h (exec_parset_of_normal k herr)⟩
  · exact ⟨s.key, eq_of_exec h (exec_of_error nofun herr)⟩

/-- A block command does not see another key buffer. -/
theorem exec_setKey_dout {i : Instr} {key : Vector Byte 24} {s u u' : State} (herr : s.err = none)
    (hi : schedNeeded i = some s.sklen) (hu : exec i s = .next u) (hu' : exec i (s.setKey key) = .next u') :
    u'.dout = u.dout ∧ u'.err = none :=
  exec_schedNeeded_congr herr ((s.setKey_err key).trans herr) (s.setKey_sk key) (s.setKey_sklen key) (s.setKey_din key)
    hi hu hu'

/-- Settles O30: both ways of writing key bytes change the key buffer alone, which no block command reads. -/
theorem newKeyBytesDoNotReachTheSchedule : Obligations.NewKeyBytesDoNotReachTheSchedule := by
  refine ⟨fun off v s t hlow hhigh h => ?_, fun n s t hn h => ?_⟩
  · obtain ⟨key, rfl⟩ := regWrite_key hlow hhigh h
    exact ⟨rfl, rfl, fun i u u' => exec_setKey_dout⟩
  · obtain ⟨key, rfl⟩ := exec_parset_key hn h
    exact ⟨rfl, rfl, fun i u u' => exec_setKey_dout⟩

/-! ### Key-schedule commands -/

/-- A command that writes a context writes the same schedule from two states that build the same. -/
theorem exec_sk_congr {i : Instr} {build : State → Cascade} {len : SchedLen} {dir : Dir} {s s' t t' : State}
    (hexec : ∀ s : State, s.err = none → exec i s = .next (s.setContext (build s) len dir)) (herr : s.err = none)
    (herr' : s'.err = none) (hbuild : build s = build s') (ht : exec i s = .next t) (ht' : exec i s' = .next t') :
    t.sk = t'.sk := by
  obtain rfl := eq_of_exec ht (hexec s herr)
  obtain rfl := eq_of_exec ht' (hexec s' herr')
  exact hbuild

/-- Settles O29: keys with the same key bits have the same schedule, so the commands compose the same. -/
theorem scheduleDependsOnKeyBitsOnly : Obligations.ScheduleDependsOnKeyBitsOnly := by
  refine ⟨?_, ?_, ?_⟩
  · intro i s s' t t' hi herr herr' h0
    have hk0 := generateSchedule_congr h0
    rcases hi with rfl | rfl
    · exact exec_sk_congr (fun _ => exec_ks1E_of_normal) herr herr' (by rw [hk0])
    · exact exec_sk_congr (fun _ => exec_ks1D_of_normal) herr herr' (by rw [hk0])
  · intro i s s' t t' hi herr herr' h0 h1
    have hk0 := generateSchedule_congr h0
    have hk1 := generateSchedule_congr h1
    rcases hi with rfl | rfl
    · exact exec_sk_congr (fun _ => exec_ks2E_of_normal) herr herr' (by simp only [compose2Enc, hk0, hk1])
    · exact exec_sk_congr (fun _ => exec_ks2D_of_normal) herr herr' (by simp only [compose2Dec, hk0, hk1])
  · intro i s s' t t' hi herr herr' h0 h1 h2
    have hk0 := generateSchedule_congr h0
    have hk1 := generateSchedule_congr h1
    have hk2 := generateSchedule_congr h2
    rcases hi with rfl | rfl
    · exact exec_sk_congr (fun _ => exec_ks3E_of_normal) herr herr' (by simp only [compose3Enc, hk0, hk1, hk2])
    · exact exec_sk_congr (fun _ => exec_ks3D_of_normal) herr herr' (by simp only [compose3Dec, hk0, hk1, hk2])

end Sys2Proof.Machine
end

section
/-! SUPPORT. The consequences that spec/41_key_schedule.md R121 draws: degenerate, complemented, weak and semi-weak
keys. Each is a fact about the key registers that the rotations and PC2 carry over to the schedule. The obligation is
settled from these at the end. -/

namespace Sys2Proof.Machine

/-! ### Registers that rotations leave alone -/

/-- With registers that rotate to themselves every round has the same pair. -/
theorem generateSchedule_of_rotateRegs_one {key : Key} (h : rotateRegs (loadKeyRegs key) 1 = loadKeyRegs key) (j : Nat)
    (hj : j < 32) : (generateSchedule key)[j] =
      if j % 2 = 0 then (pc2 (loadKeyRegs key)).even else (pc2 (loadKeyRegs key)).odd := by
  rw [generateSchedule_getElem, regsAfter_of_rotateRegs_one h]

theorem loadKeyRegs_zeros : loadKeyRegs (Vector.replicate 8 0x01) = ⟨0, 0⟩ := by decide +kernel

theorem loadKeyRegs_ones : loadKeyRegs (Vector.replicate 8 0xFE) = ⟨0xFFFFFFF, 0xFFFFFFF⟩ := by decide +kernel

/-- A key whose bytes all have one forced form, whose registers rotate to themselves and give one word twice. -/
theorem generateSchedule_of_constant {a : Key} {b : Byte} {r : KeyRegs} {w : Word}
    (hforced : ∀ i : Fin 8, forceParity a[i] = b) (hload : loadKeyRegs (Vector.replicate 8 b) = r)
    (hrot : rotateRegs r 1 = r) (hpc2 : pc2 r = ⟨w, w⟩) (j : Nat) (hj : j < 32) : (generateSchedule a)[j] = w := by
  have hkey : setOddParity a = Vector.replicate 8 b := by
    ext1 i hi
    rw [setOddParity_getElem, Vector.getElem_replicate]
    exact hforced ⟨i, hi⟩
  simp only [← generateSchedule_setOddParity a, hkey]
  rw [generateSchedule_of_rotateRegs_one (by rw [hload, hrot]), hload, hpc2, ite_self]

/-- A key whose key bits are all zero (R121 item 3). -/
theorem generateSchedule_of_key_bits_zero {a : Key} (h : ∀ i : Fin 8, a[i] = 0x00 ∨ a[i] = 0x01) (j : Nat)
    (hj : j < 32) : (generateSchedule a)[j] = 0 :=
  generateSchedule_of_constant (fun i => by obtain hi | hi := h i <;> rw [hi] <;> rfl) loadKeyRegs_zeros (by decide)
    (by decide) j hj

/-- A key whose key bits are all one (R121 item 3). -/
theorem generateSchedule_of_key_bits_one {a : Key} (h : ∀ i : Fin 8, a[i] = 0xFE ∨ a[i] = 0xFF) (j : Nat)
    (hj : j < 32) : (generateSchedule a)[j] = 0x3F3F3F3F :=
  generateSchedule_of_constant (fun i => by obtain hi | hi := h i <;> rw [hi] <;> rfl) loadKeyRegs_ones (by decide)
    (by decide) j hj

/-! ### The complement -/

theorem not_perm {n m : Nat} (v : BitVec n) {t : Vector Nat m} (hn : 0 < n) (ht : ∀ i : Fin m, 0 < t[i]) :
    (perm (~~~v) t : BitVec m) = ~~~(perm v t) := by
  apply BitVec.eq_of_getLsbD_eq
  intro i hi
  have hpos : 0 < t[m - 1 - i] := ht ⟨m - 1 - i, by omega⟩
  have hlt : n - t[m - 1 - i] < n := by omega
  simp only [getLsbD_perm _ _ _ hi, BitVec.getLsbD_not, hi, hlt]

theorem tablePC1_pos : ∀ i : Fin 56, 0 < tablePC1[i] := by decide

theorem tablePC2_pos : ∀ i : Fin 48, 0 < tablePC2[i] := by decide

/-- Every byte complemented. -/
def complementKey (a : Key) : Key := Vector.ofFn fun j : Fin 8 => ~~~ a[j]

theorem be32_not (a b c d : Byte) : be32 (~~~a) (~~~b) (~~~c) (~~~d) = ~~~ be32 a b c d := by
  simp only [be32, ← BitVec.not_append]

theorem toU64_complementKey (a : Key) : toU64 (complementKey a) = ~~~ toU64 a := by
  have hhi : hiWord (complementKey a) = ~~~ hiWord a := by
    simpa [complementKey, hiWord] using be32_not a[0] a[1] a[2] a[3]
  have hlo : loWord (complementKey a) = ~~~ loWord a := by
    simpa [complementKey, loWord] using be32_not a[4] a[5] a[6] a[7]
  rw [toU64, hhi, hlo]
  exact BitVec.not_append.symm

/-- Both registers complemented. -/
def complementRegs (r : KeyRegs) : KeyRegs := ⟨~~~ r.c, ~~~ r.d⟩

theorem extractLsb'_not {n start len : Nat} (v : BitVec n) (h : start + len ≤ n) :
    (~~~v).extractLsb' start len = ~~~ v.extractLsb' start len := by
  apply BitVec.eq_of_getLsbD_eq
  intro i hi
  have hlt : start + i < n := by omega
  simp only [BitVec.getLsbD_extractLsb', BitVec.getLsbD_not, hi, hlt, decide_true, Bool.true_and]

theorem loadKeyRegs_complementKey (a : Key) : loadKeyRegs (complementKey a) = complementRegs (loadKeyRegs a) := by
  rw [loadKeyRegs_eq_fipsPC1, loadKeyRegs_eq_fipsPC1, toU64_complementKey]
  simp only [fipsPC1, not_perm _ (by decide : 0 < 64) tablePC1_pos, complementRegs,
    extractLsb'_not _ (by decide : 28 + 28 ≤ 56), extractLsb'_not _ (by decide : 0 + 28 ≤ 56)]

theorem rol28_not (a : U28) (n : Nat) : rol28 (~~~a) n = ~~~ rol28 a n := by
  apply BitVec.eq_of_getLsbD_eq
  intro i hi
  have hlt : (i + (28 - n % 28)) % 28 < 28 := Nat.mod_lt _ (by omega)
  simp only [getLsbD_rol28 _ _ _ hi, BitVec.getLsbD_not, hi, hlt]

theorem regsAfter_complementRegs (r : KeyRegs) (n : Nat) :
    regsAfter (complementRegs r) n = complementRegs (regsAfter r n) := by
  induction n with
  | zero => rfl
  | succ n ih =>
    rw [regsAfter, ih, regsAfter]
    simp only [rotateRegs, complementRegs, rol28_not]

theorem fipsPC2_complementRegs (r : KeyRegs) : fipsPC2 (complementRegs r) = ~~~ fipsPC2 r := by
  rw [fipsPC2, complementRegs, ← BitVec.not_append, not_perm _ (by omega) tablePC2_pos, fipsPC2]

theorem packed_groups_not (a b c d : BitVec 6) :
    ((~~~ a).setWidth 32 <<< 24 ||| (~~~ b).setWidth 32 <<< 16 ||| (~~~ c).setWidth 32 <<< 8 |||
      (~~~ d).setWidth 32) =
    (a.setWidth 32 <<< 24 ||| b.setWidth 32 <<< 16 ||| c.setWidth 32 <<< 8 ||| d.setWidth 32) ^^^ 0x3F3F3F3F#32 := by
  apply BitVec.eq_of_getLsbD_eq
  intro i hi
  interval_cases i <;> simp

theorem keyGroup_not (k : BitVec 48) {j : Nat} (h1 : 1 ≤ j) (h8 : j ≤ 8) : keyGroup (~~~k) j = ~~~ keyGroup k j :=
  extractLsb'_not k (by omega)

/-- The packing carries the complement of a round key to all bits but the fixed ones (R117). -/
theorem packRoundKey_not (k : BitVec 48) : packRoundKey (~~~k) =
    ⟨(packRoundKey k).even ^^^ 0x3F3F3F3F#32, (packRoundKey k).odd ^^^ 0x3F3F3F3F#32⟩ := by
  simp (disch := omega) only [packRoundKey, keyGroup_not, packed_groups_not]

/-- The schedule of the complemented key (R121 item 4). -/
theorem generateSchedule_complementKey (a : Key) (j : Nat) (hj : j < 32) :
    (generateSchedule (complementKey a))[j] = (generateSchedule a)[j] ^^^ 0x3F3F3F3F := by
  simp only [generateSchedule_getElem, loadKeyRegs_complementKey, regsAfter_complementRegs, pc2_eq_packRoundKey,
    fipsPC2_complementRegs, packRoundKey_not]
  split <;> rfl

/-! ### Weak and semi-weak keys -/

/-- The round pairs of a weak key are all the same (R121 item 5). -/
theorem generateSchedule_of_weak {w : Key} (hw : w ∈ weakKeys.take 4) (i : Nat) (hi : i < 16) :
    (generateSchedule w)[2 * i] = (generateSchedule w)[0] ∧
    (generateSchedule w)[2 * i + 1] = (generateSchedule w)[1] := by
  have hparity : (2 * i + 1) % 2 = 1 := by omega
  simp [generateSchedule_of_rotateRegs_one (rotateRegs_weak hw), hparity]

theorem rotateRegs_rotateRegs (r : KeyRegs) (m n : Nat) : rotateRegs (rotateRegs r m) n = rotateRegs r (m + n) := by
  simp only [rotateRegs, rol28_rol28]

/-- On registers of period two only the parity of a rotation count matters. -/
theorem rotateRegs_mod_two {r : KeyRegs} (h : rotateRegs r 2 = r) (n : Nat) :
    rotateRegs r n = rotateRegs r (n % 2) := by
  induction n using Nat.twoStepInduction with
  | zero | one => rfl
  | more n ih _ =>
    calc rotateRegs r (n + 2) = rotateRegs (rotateRegs r 2) n := by rw [rotateRegs_rotateRegs, Nat.add_comm]
      _ = rotateRegs r ((n + 2) % 2) := by rw [h, ih, Nat.add_mod_right]

/-- Round `i` and round `15 - i` have rotation counts of opposite parity (R115). -/
theorem shiftCount_sum_parity : ∀ i : Fin 16,
    (1 + ∑ j ∈ Finset.range (i.val + 1), shiftCount j) % 2 =
      (∑ j ∈ Finset.range (16 - i.val), shiftCount j) % 2 := by
  decide

/-- Registers of period two, rotated by one before the first round, go through the rounds backwards. -/
theorem regsAfter_rotateRegs_one {r : KeyRegs} (h : rotateRegs r 2 = r) (i : Fin 16) :
    regsAfter (rotateRegs r 1) (i.val + 1) = regsAfter r (16 - i.val) := by
  rw [regsAfter_eq_rotateRegs, regsAfter_eq_rotateRegs, rotateRegs_rotateRegs, rotateRegs_mod_two h,
    shiftCount_sum_parity, ← rotateRegs_mod_two h]

/-- The key registers of the six semi-weak pairs (R121). -/
def semiWeakRegs : List KeyRegs := [
  ⟨0, 0xAAAAAAA⟩, ⟨0, 0x5555555⟩, ⟨0xAAAAAAA, 0⟩, ⟨0x5555555, 0⟩,
  ⟨0xAAAAAAA, 0xAAAAAAA⟩, ⟨0x5555555, 0x5555555⟩, ⟨0xAAAAAAA, 0x5555555⟩, ⟨0x5555555, 0xAAAAAAA⟩,
  ⟨0xAAAAAAA, 0xFFFFFFF⟩, ⟨0x5555555, 0xFFFFFFF⟩, ⟨0xFFFFFFF, 0xAAAAAAA⟩, ⟨0xFFFFFFF, 0x5555555⟩]

theorem map_loadKeyRegs_semiWeak : (weakKeys.drop 4).map loadKeyRegs = semiWeakRegs := by decide +kernel

/-- In each pair both registers have period two, and the second key's are the first one's rotated by one. -/
theorem semiWeakRegs_pair : ∀ m : Fin 6, ∀ r ∈ semiWeakRegs[2 * m.val]?, ∀ r' ∈ semiWeakRegs[2 * m.val + 1]?,
    rotateRegs r 2 = r ∧ r' = rotateRegs r 1 := by decide +kernel

theorem semiWeakRegs_getElem? {n : Nat} {w : Key} (hw : weakKeys[4 + n]? = some w) :
    semiWeakRegs[n]? = some (loadKeyRegs w) := by
  rw [← map_loadKeyRegs_semiWeak, List.getElem?_map, List.getElem?_drop, hw, Option.map_some]

/-- The two keys of a semi-weak pair have reversed schedules (R121 item 5). -/
theorem generateSchedule_of_semiWeak {v w : Key} (hperiod : rotateRegs (loadKeyRegs v) 2 = loadKeyRegs v)
    (hw : loadKeyRegs w = rotateRegs (loadKeyRegs v) 1) : generateSchedule w = reversePairs (generateSchedule v) := by
  ext1 j hj
  have hparity : (30 - 2 * (j / 2) + j % 2) % 2 = j % 2 := by omega
  have hround : (30 - 2 * (j / 2) + j % 2) / 2 + 1 = 16 - j / 2 := by omega
  have hregs := regsAfter_rotateRegs_one hperiod ⟨j / 2, by omega⟩
  simp only [reversePairs_getElem, generateSchedule_getElem, hw, hregs, hparity, hround]

/-- Settles O45: parity bits from PC1, fixed bits from the packing, and the special keys from their registers. -/
theorem scheduleConsequencesHold : Obligations.ScheduleConsequencesHold := by
  refine ⟨fun a b => generateSchedule_congr, generateSchedule_setOddParity, ?_,
    fun a i => fixedZero_generateSchedule a i.val i.isLt, fun a h i => generateSchedule_of_key_bits_zero h i.val i.isLt,
    fun a h i => generateSchedule_of_key_bits_one h i.val i.isLt,
    fun a i => generateSchedule_complementKey a i.val i.isLt, ?_, ?_⟩
  · exact generateSchedule_congr (by unfold sameKeyBits; decide)
  · intro j w hw
    have hmem : w ∈ weakKeys.take 4 := List.mem_of_getElem? (i := j.val) (by rwa [List.getElem?_take_of_lt j.isLt])
    exact ⟨reversePairs_of_weak hmem, fun i => generateSchedule_of_weak hmem i.val i.isLt⟩
  · intro m v w hv hw
    have hidx : 2 * m.val + 5 = 4 + (2 * m.val + 1) := by omega
    rw [Nat.add_comm] at hv
    rw [hidx] at hw
    obtain ⟨hperiod, hregs⟩ := semiWeakRegs_pair m _ (semiWeakRegs_getElem? hv) _ (semiWeakRegs_getElem? hw)
    exact generateSchedule_of_semiWeak hperiod hregs

end Sys2Proof.Machine
end

section
/-! SUPPORT. The consequences drawn for the permutations (spec/43_initial_final_permutation.md R150) and for the
substitution tables (spec/40_sbox_array.md R104): disjoint masks make XOR and OR the same. -/

namespace Sys2Proof.Machine

/-! ### `ip` and `fp` (R150) -/

/-- Settles O48: the two undo each other line by line; the rows are computed. -/
theorem ipAndFpUndoEachOther : Obligations.IpAndFpUndoEachOther :=
  ⟨fun h => ⟨fp_ip h, ip_fp h⟩, by decide, by decide, by decide, by decide⟩

/-! ### The substitution tables (R104) -/

/-- The entries of a table have no bit outside its mask. -/
theorem lookup6_and_sbMask : ∀ (k : Fin 8) (i : BitVec 6),
    lookup6 (sbListed k) i &&& sbMask k = lookup6 (sbListed k) i := by
  decide +kernel

theorem lookup6_and_not_sbMask (k : Fin 8) (i : BitVec 6) : lookup6 (sbListed k) i &&& ~~~ sbMask k = 0 := by
  rw [← lookup6_and_sbMask, BitVec.and_assoc, BitVec.and_not_self]
  exact BitVec.and_zero

theorem sbMask_disjoint : ∀ j k : Fin 8, j ≠ k → sbMask j &&& sbMask k = 0 := by decide

/-- A word with no bit of a table's mask shares no bit with the table's entries. -/
theorem and_lookup6_eq_zero {w : Word} {k : Fin 8} (h : w &&& sbMask k = 0) (i : BitVec 6) :
    w &&& lookup6 (sbListed k) i = 0 :=
  calc w &&& lookup6 (sbListed k) i
    _ = (w &&& sbMask k) &&& lookup6 (sbListed k) i := by
      rw [BitVec.and_assoc, BitVec.and_comm (sbMask k), lookup6_and_sbMask]
    _ = 0 := by rw [h]; exact BitVec.zero_and

theorem xor_eq_or_of_and_eq_zero {n : Nat} {a b : BitVec n} (h : a &&& b = 0) : a ^^^ b = a ||| b := by
  apply BitVec.eq_of_getLsbD_eq
  intro i hi
  have hbit : (a.getLsbD i && b.getLsbD i) = false := by
    rw [← BitVec.getLsbD_and, h, BitVec.ofNat_eq_ofNat, BitVec.getLsbD_zero]
  rw [BitVec.getLsbD_xor, BitVec.getLsbD_or]
  cases ha : a.getLsbD i <;> cases hb : b.getLsbD i <;> simp [ha, hb] at hbit ⊢

/-- Entries of different tables joined to a word that has none of their bits: XOR is OR. -/
theorem foldl_xor_eq_foldl_or (i : Fin 8 → BitVec 6) {l : List (Fin 8)} (hl : l.Nodup) {m : Word}
    (hm : ∀ k ∈ l, m &&& sbMask k = 0) :
    l.foldl (fun m k => m ^^^ lookup6 (sbListed k) (i k)) m =
      l.foldl (fun m k => m ||| lookup6 (sbListed k) (i k)) m := by
  induction l generalizing m with
  | nil => rfl
  | cons k l ih =>
    obtain ⟨hk, hl⟩ := List.nodup_cons.mp hl
    rw [List.foldl_cons, List.foldl_cons, xor_eq_or_of_and_eq_zero (and_lookup6_eq_zero (hm k (by simp)) _)]
    refine ih hl fun j hj => ?_
    have hne : j ≠ k := fun h => hk (h ▸ hj)
    have hentry : lookup6 (sbListed k) (i k) &&& sbMask j = 0 := by
      rw [BitVec.and_comm]
      exact and_lookup6_eq_zero (sbMask_disjoint j k hne) _
    rw [BitVec.and_or_distrib_right, hm j (by simp [hj]), hentry]
    rfl

theorem sbListed_dedup_length : ∀ k : Fin 8, (sbListed k).toList.dedup.length = 16 := by decide +kernel

theorem sbListed_all_count : ∀ k : Fin 8,
    ((sbListed k).toList.all fun v => (sbListed k).toList.count v == 4) = true := by decide +kernel

theorem sbListed_count {k : Fin 8} {v : Word} (hv : v ∈ (sbListed k).toList) : (sbListed k).toList.count v = 4 :=
  beq_iff_eq.mp (List.all_eq_true.mp (sbListed_all_count k) v hv)

/-- Settles O49: masks and counts from the tables, XOR as OR by joining one table after the other. -/
theorem substitutionTablesWriteDisjointBits : Obligations.SubstitutionTablesWriteDisjointBits :=
  ⟨lookup6_and_not_sbMask, sbMask_disjoint, by decide,
    fun i => foldl_xor_eq_foldl_or i (List.nodup_finRange 8) fun k _ => BitVec.zero_and,
    fun k => ⟨sbListed_dedup_length k, fun v => sbListed_count⟩⟩

end Sys2Proof.Machine
end


section
/-! SUPPORT. The commands compute published DES (spec/00_scope.md R1, spec/42_cascade_key_composer.md R131,
spec/44_feistel_engine.md R160 to R167): one pass under a generated schedule, or under one reversed, is the published
encryption or decryption, and three passes are the published triple DES. -/

namespace Sys2Proof.Machine

/-! ### The rounds one by one (R160) -/

/-- Settles O51: an even number of rounds is whole double rounds; one more is half a double round. -/
theorem roundsFollowThePublishedIteration : Obligations.RoundsFollowThePublishedIteration := by
  intro k h i hi start g
  have hg : g = rotateHalves (fipsRounds k h (2 * i)) := foldl_doubleRound_packSchedule k h i hi
  refine ⟨hg, fun hlt => ?_⟩
  rw [hg, fipsRounds_succ _ _ _ (by omega)]
  exact ⟨xor_roundF_packRoundKey .., rfl⟩

/-! ### A pass undone (R167) -/

/-- The mirrored cascade undoes the three passes, the last one first. -/
theorem processBlock3_mirror (s1 s2 s3 : Schedule) (b : Block) :
    processBlock3 (joinPasses (reversePairs s3) (reversePairs s2) (reversePairs s1))
      (processBlock3 (joinPasses s1 s2 s3) b) = b := by
  simp only [processBlock3_joinPasses, processBlock_reversePairs]

theorem processBlock3_compose3 (k1 k2 k3 : Key) (b : Block) :
    processBlock3 (compose3Dec k1 k2 k3) (processBlock3 (compose3Enc k1 k2 k3) b) = b := by
  have hmirror :=
    processBlock3_mirror (generateSchedule k1) (reversePairs (generateSchedule k2)) (generateSchedule k3) b
  rwa [reversePairs_reversePairs] at hmirror

theorem processBlock3_compose2 (k1 k2 : Key) (b : Block) :
    processBlock3 (compose2Dec k1 k2) (processBlock3 (compose2Enc k1 k2) b) = b :=
  processBlock3_compose3 k1 k2 k1 b

/-- A block command of the schedule length held, after any context is written. -/
theorem exec_crypt1_of_context {s : State} (sched : Schedule) (dir : Dir) (herr : s.err = none) :
    exec .crypt1 (s.setContext (singleContext sched) .single dir) =
      .next ((s.setContext (singleContext sched) .single dir).setDout (processBlock sched s.din)) := by
  rw [exec_crypt1_of_single ((State.setContext_err ..).trans herr) (State.setContext_sklen ..), State.setContext_sk,
    segment_singleContext, State.setContext_din]

theorem exec_crypt3_of_context {s : State} (sk : Cascade) (dir : Dir) (herr : s.err = none) :
    exec .crypt3 (s.setContext sk .cascade dir) =
      .next ((s.setContext sk .cascade dir).setDout (processBlock3 sk s.din)) := by
  rw [exec_crypt3_of_cascade ((State.setContext_err ..).trans herr) (State.setContext_sklen ..), State.setContext_sk,
    State.setContext_din]

/-- Settles O54: the pass undone; then each pair of commands writes a schedule and the one that undoes it. -/
theorem reversedScheduleUndoesAPass : Obligations.ReversedScheduleUndoesAPass := by
  refine ⟨processBlock_reversePairs, fun e d c hedc s herr => ?_⟩
  simp only [List.mem_cons, Prod.mk.injEq, List.not_mem_nil, or_false] at hedc
  obtain ⟨rfl, rfl, rfl⟩ | ⟨rfl, rfl, rfl⟩ | ⟨rfl, rfl, rfl⟩ := hedc
  · refine ⟨_, _, _, _, exec_ks1E_of_normal herr, exec_crypt1_of_context _ _ herr,
      exec_ks1D_of_normal (s := State.setDin _ _) ?_, exec_crypt1_of_context _ _ ?_, ?_⟩
    · simpa using herr
    · simpa using herr
    · simp [processBlock_reversePairs]
  · refine ⟨_, _, _, _, exec_ks2E_of_normal herr, exec_crypt3_of_context _ _ herr,
      exec_ks2D_of_normal (s := State.setDin _ _) ?_, exec_crypt3_of_context _ _ ?_, ?_⟩
    · simpa using herr
    · simpa using herr
    · simp [processBlock3_compose2]
  · refine ⟨_, _, _, _, exec_ks3E_of_normal herr, exec_crypt3_of_context _ _ herr,
      exec_ks3D_of_normal (s := State.setDin _ _) ?_, exec_crypt3_of_context _ _ ?_, ?_⟩
    · simpa using herr
    · simpa using herr
    · simp [processBlock3_compose3]

/-! ### One pass as published DES (R119, R162) -/

/-- Reversing the pairs of a packed schedule reverses the round keys. -/
theorem reversePairs_packSchedule (k : Vector (BitVec 48) 16) :
    reversePairs (packSchedule k) = packSchedule k.reverse := by
  ext1 j hj
  have hparity : (30 - 2 * (j / 2) + j % 2) % 2 = j % 2 := by omega
  have hround : (30 - 2 * (j / 2) + j % 2) / 2 = 16 - 1 - j / 2 := by omega
  simp only [reversePairs_getElem, packSchedule_getElem, hparity, hround, Vector.getElem_reverse]

theorem toU64_processBlock_generateSchedule (key : Key) (b : Block) :
    toU64 (processBlock (generateSchedule key) b) = desEncrypt key (toU64 b) := by
  rw [generateSchedule_eq_packSchedule, toU64_processBlock_packSchedule, desEncrypt]

theorem toU64_processBlock_reversePairs (key : Key) (b : Block) :
    toU64 (processBlock (reversePairs (generateSchedule key)) b) = desDecrypt key (toU64 b) := by
  rw [generateSchedule_eq_packSchedule, reversePairs_packSchedule, toU64_processBlock_packSchedule, desDecrypt]

theorem toU64_processBlock3_compose3Enc (k1 k2 k3 : Key) (b : Block) :
    toU64 (processBlock3 (compose3Enc k1 k2 k3) b) = tdesEncrypt k1 k2 k3 (toU64 b) := by
  rw [compose3Enc_eq_joinPasses, processBlock3_joinPasses, toU64_processBlock_generateSchedule,
    toU64_processBlock_reversePairs, toU64_processBlock_generateSchedule, tdesEncrypt]

theorem toU64_processBlock3_compose3Dec (k1 k2 k3 : Key) (b : Block) :
    toU64 (processBlock3 (compose3Dec k1 k2 k3) b) = tdesDecrypt k1 k2 k3 (toU64 b) := by
  rw [compose3Dec_eq_joinPasses, processBlock3_joinPasses, toU64_processBlock_reversePairs,
    toU64_processBlock_generateSchedule, toU64_processBlock_reversePairs, tdesDecrypt]

/-- Settles O55: the block processed is that of the schedule just written. -/
theorem singleKeyCommandsComputePublishedDes : Obligations.SingleKeyCommandsComputePublishedDes := fun s herr =>
  ⟨⟨_, _, exec_ks1E_of_normal herr, exec_crypt1_of_context _ _ herr,
      toU64_processBlock_generateSchedule (s.slot 0) s.din⟩,
    ⟨_, _, exec_ks1D_of_normal herr, exec_crypt1_of_context _ _ herr,
      toU64_processBlock_reversePairs (s.slot 0) s.din⟩⟩

/-- Settles O56: the three passes are those of the cascade just written; two keys are three with the first one again. -/
theorem cascadeCommandsComputePublishedTripleDes : Obligations.CascadeCommandsComputePublishedTripleDes := by
  intro s herr
  refine ⟨⟨_, _, exec_ks3E_of_normal herr, exec_crypt3_of_context _ _ herr, ?_⟩,
    ⟨_, _, exec_ks3D_of_normal herr, exec_crypt3_of_context _ _ herr, ?_⟩,
    ⟨_, _, exec_ks2E_of_normal herr, exec_crypt3_of_context _ _ herr, ?_⟩,
    ⟨_, _, exec_ks2D_of_normal herr, exec_crypt3_of_context _ _ herr, ?_⟩⟩
  · exact toU64_processBlock3_compose3Enc ..
  · exact toU64_processBlock3_compose3Dec ..
  · rw [compose2Enc_eq_compose3Enc]
    exact toU64_processBlock3_compose3Enc ..
  · rw [compose2Dec_eq_compose3Dec]
    exact toU64_processBlock3_compose3Dec ..

end Sys2Proof.Machine
end

section
/-! SUPPORT. The parity table and the parity check (spec/45_key_hygiene.md R176 to R180): a byte is its own table entry
exactly when it has an odd number of one bits, and the check asks that of every byte. -/

namespace Sys2Proof.Machine

/-- A byte is its own entry of the parity table exactly when the number of its one bits is odd (R175, R180). -/
theorem forceParity_eq_self_iff : ∀ b : Byte, forceParity b = b ↔ ones b % 2 = 1 := by decide +kernel

theorem forceParity_par (i : BitVec 7) : forceParity (par i) = par i := by rw [forceParity, extractLsb'_par]

/-- The check asks every byte to be its own table entry (R180). -/
theorem checkOddParity_iff (key : Key) : checkOddParity key = true ↔ ∀ i : Fin 8, forceParity key[i] = key[i] := by
  simp only [checkOddParity, List.all_eq_true, Vector.mem_toList_iff, beq_iff_eq]
  refine ⟨fun h i => (h _ (Vector.getElem_mem i.isLt)).symm, fun h b hb => ?_⟩
  obtain ⟨i, hi, rfl⟩ := Vector.getElem_of_mem hb
  exact (h ⟨i, hi⟩).symm

/-- The check is true exactly for the keys that forcing leaves alone (R178). -/
theorem checkOddParity_iff_setOddParity_eq (key : Key) : checkOddParity key = true ↔ setOddParity key = key := by
  refine (checkOddParity_iff key).trans ⟨fun h => ?_, fun h i => ?_⟩
  · ext1 i hi
    rw [setOddParity_getElem]
    exact h ⟨i, hi⟩
  · rw [Fin.getElem_fin, ← setOddParity_getElem key i.val i.isLt, h]

theorem parListing_getElem? (i : Fin 128) : parListing[i.val]? = some (par (BitVec.ofNat 7 i.val)) := by
  rw [parListing_eq_par, List.getElem?_map, List.getElem?_range i.isLt, Option.map_some]

/-- Settles O57: forcing and checking agree because forcing leaves a forced key alone; the examples are computed. -/
theorem parityTableAndFunctionsAgree : Obligations.ParityTableAndFunctionsAgree :=
  ⟨fun i => ⟨extractLsb'_par i, (forceParity_eq_self_iff _).mp (forceParity_par i)⟩, parListing_getElem?,
    fun k => (checkOddParity_iff_setOddParity_eq _).mpr (setOddParity_setOddParity k),
    fun k => (checkOddParity_iff_setOddParity_eq k).mp, setOddParity_setOddParity, generateSchedule_setOddParity,
    by decide +kernel, by decide +kernel⟩

/-- Settles O58, byte by byte. -/
theorem parityCheckCountsOneBits : Obligations.ParityCheckCountsOneBits := fun k =>
  (checkOddParity_iff k).trans (forall_congr' fun i => forceParity_eq_self_iff k[i])

end Sys2Proof.Machine
end


section
/-! SUPPORT. The pseudo-operations (spec/30_encoding.md R80). A list of host events that all complete takes the block
from one state to another whatever the host does next; such runs are joined end to end, one for each line of the macros.
The obligation is settled from these at the end. -/

namespace Sys2Proof.Machine

/-! ### Runs of host events -/

/-- The state with another list of events pending. -/
def State.withPending (s : State) (ops : List HostEvent) : State := { s with pending := ops }

/-- The events `ops`, pending first in `s`, all complete and leave the block as in `t`, whatever is pending after
them. -/
def RunsTo (s : State) (ops : List HostEvent) (t : State) : Prop :=
  ∀ rest n, Sys2Proof.core.run (ops.length + n) (s.withPending (ops ++ rest)) =
    Sys2Proof.core.run n (t.withPending rest)

theorem RunsTo.append {s t u : State} {a b : List HostEvent} (ha : RunsTo s a t) (hb : RunsTo t b u) :
    RunsTo s (a ++ b) u := fun rest n => by
  rw [List.length_append, Nat.add_assoc, List.append_assoc, ha, hb]

theorem run_succ {M : Host.Core} {s t : M.State} (h : M.step s = .next t) (n : Nat) : M.run (n + 1) s = M.run n t := by
  rw [Host.Core.run, h]

/-- One event that completes is a run. -/
theorem RunsTo.of_step {s t : State} {e : HostEvent}
    (h : ∀ rest, step (s.withPending (e :: rest)) = .next (t.withPending rest)) : RunsTo s [e] t := fun rest n => by
  rw [List.length_singleton, Nat.add_comm]
  exact run_succ (M := Sys2Proof.core) (s := s.withPending (e :: rest)) (t := t.withPending rest) (h rest) n

/-- What a run from `s` reads is what it returns. -/
theorem RunsTo.returns {s t : State} {ops : List HostEvent} {vs : List Word} (h : RunsTo s ops t)
    (hreads : t.reads = s.reads ++ vs) : Returns s ops vs := by
  have hrun := h [] 0
  rw [List.append_nil] at hrun
  exact ⟨_, hrun, rfl, hreads⟩

/-! ### Reads -/

/-- The state after the host has read `vs`. -/
def State.returning (vs : List Word) (s : State) : State := { s with reads := s.reads ++ vs }

@[simp] theorem returning_reads (vs : List Word) (s : State) : (s.returning vs).reads = s.reads ++ vs := rfl

/-- A run that ends in reads returns what they read, where nothing was read before. -/
theorem RunsTo.returns_returning {s t : State} {ops : List HostEvent} {vs : List Word}
    (h : RunsTo s ops (t.returning vs)) (hreads : t.reads = s.reads) : Returns s ops vs :=
  h.returns (by rw [returning_reads, hreads])

theorem returning_returning (vs ws : List Word) (s : State) :
    (s.returning vs).returning ws = s.returning (vs ++ ws) := by
  simp only [State.returning, List.append_assoc]

/-- A register does not show the host's lists. -/
theorem regRead_host (s : State) (ops : List HostEvent) (vs : List Word) (off : Nat) :
    regRead { s with pending := ops, reads := vs } off = regRead s off := by
  unfold regRead
  cases regAt off <;> rfl

theorem runsTo_rd {off : Nat} (s : State) (hwin : inWindow off = true) :
    RunsTo s [rd off] (s.returning [regRead s off]) :=
  RunsTo.of_step fun rest => by
    rw [step_read (s := s.withPending (rd off :: rest)) hwin rfl, ← regRead_host s (rd off :: rest) s.reads off]
    rfl

/-- Two reads in a row. -/
theorem runsTo_rd_rd {off off' : Nat} (s : State) (hwin : inWindow off = true) (hwin' : inWindow off' = true) :
    RunsTo s [rd off, rd off'] (s.returning [regRead s off, regRead s off']) := by
  have hrun := (runsTo_rd s hwin).append (runsTo_rd (s.returning [regRead s off]) hwin')
  have hsame : regRead (s.returning [regRead s off]) off' = regRead s off' := regRead_host s s.pending _ off'
  rwa [hsame, returning_returning] at hrun

theorem runsTo_readBlk (s : State) : RunsTo s readBlk (s.returning [hiWord s.dout, loWord s.dout]) := by
  have hhi : regRead s 0x038 = hiWord s.dout := regRead_of_offset (r := .doutw 0) s rfl
  have hlo : regRead s 0x03C = loWord s.dout := regRead_of_offset (r := .doutw 1) s rfl
  rw [← hhi, ← hlo]
  exact runsTo_rd_rd s (by decide) (by decide)

theorem runsTo_readKey (k : Fin 3) (s : State) :
    RunsTo s (readKey k) (s.returning [hiWord (s.slot k), loWord (s.slot k)]) := by
  rw [← regRead_slot_hiWord, ← regRead_slot_loWord]
  exact runsTo_rd_rd s ((inWindow_natCast _).mpr (by omega)) ((inWindow_natCast _).mpr (by omega))

theorem runsTo_readFlag (s : State) : RunsTo s readFlag (s.returning [s.status]) :=
  runsTo_rd (off := 0x004) s (by decide)

/-! ### Writes of the buffers -/

theorem setKey_withPending (key : Vector Byte 24) (s : State) (ops : List HostEvent) :
    (s.setKey key).withPending ops = (s.withPending ops).setKey key := rfl

theorem setDin_withPending (b : Block) (s : State) (ops : List HostEvent) :
    (s.setDin b).withPending ops = (s.withPending ops).setDin b := rfl

theorem runsTo_wr_key (j : Fin 6) (v : Word) (s : State) :
    RunsTo s [wr (0x010 + 4 * j.val) v] (s.setKey (setWordAt s.key j.val v)) :=
  RunsTo.of_step fun rest => by
    rw [setKey_withPending]
    exact step_write_key (s := s.withPending (wr (0x010 + 4 * j.val) v :: rest)) rfl

theorem runsTo_wr_din (j : Fin 2) (v : Word) (s : State) :
    RunsTo s [wr (0x030 + 4 * j.val) v] (s.setDin (setWordAt s.din j.val v)) :=
  RunsTo.of_step fun rest => by
    rw [setDin_withPending]
    exact step_write_din (s := s.withPending (wr (0x030 + 4 * j.val) v :: rest)) rfl

/-- A buffer whose words `j` and `j + 1` are written has the bytes of those words. -/
theorem setWordAt_hiWord_loWord {n : Nat} (a : Vector Byte n) (k : Nat) (b : Vector Byte 8) (i : Nat) (hi : i < n) :
    (setWordAt (setWordAt a (2 * k) (hiWord b)) (2 * k + 1) (loWord b))[i] =
      if i / 8 = k then b[i % 8] else a[i] := by
  have hhi : ∀ m (hm : m < 4), (unbe32 (hiWord b))[m] = b[m] := fun m hm =>
    (unbe32_wordAt b 0 (by omega) m hm).trans (by simp)
  have hlo : ∀ m (hm : m < 4), (unbe32 (loWord b))[m] = b[4 + m] := fun m hm =>
    unbe32_wordAt b 1 (by omega) m hm
  simp only [setWordAt_getElem, hhi _ (Nat.mod_lt i (by omega : 0 < 4)), hlo _ (Nat.mod_lt i (by omega : 0 < 4))]
  -- Byte `i` lies in word `2k + 1`, in word `2k`, or in another slot.
  obtain h | h | h : i / 4 = 2 * k + 1 ∨ i / 4 = 2 * k ∨ i / 8 ≠ k := by omega
  · have hslot : i / 8 = k := by omega
    have hpos : i % 8 = 4 + i % 4 := by omega
    simp only [h, hslot, hpos, if_true]
  · have hslot : i / 8 = k := by omega
    have hpos : i % 8 = i % 4 := by omega
    simp [h, hslot, hpos]
  · have hword1 : i / 4 ≠ 2 * k + 1 := by omega
    have hword0 : i / 4 ≠ 2 * k := by omega
    simp only [h, hword1, hword0, if_false]

/-- Of two key buffers written the second counts. -/
theorem setKey_setKey (key key' : Vector Byte 24) (s : State) : (s.setKey key).setKey key' = s.setKey key' := rfl

/-- Of two input blocks written the second counts. -/
theorem setDin_setDin (b b' : Block) (s : State) : (s.setDin b).setDin b' = s.setDin b' := rfl

/-- The two word writes of `LOADKEY` write the slot. -/
theorem setKey_setWordAt_eq_setSlot (k : Fin 3) (key : Key) (s : State) :
    s.setKey (setWordAt (setWordAt s.key (2 * k.val) (hiWord key)) (2 * k.val + 1) (loWord key)) = s.setSlot k key := by
  unfold State.setSlot
  refine congrArg (State.setKey · s) (Vector.ext fun i hi => ?_)
  rw [setWordAt_hiWord_loWord, Vector.getElem_ofFn]

theorem runsTo_loadKey (k : Fin 3) (key : Key) (s : State) : RunsTo s (loadKey k key) (s.setSlot k key) := by
  have hhi : 0x010 + 4 * (2 * k.val) = 0x010 + 8 * k.val := by omega
  have hlo : 0x010 + 4 * (2 * k.val + 1) = 0x014 + 8 * k.val := by omega
  have hrun := (runsTo_wr_key ⟨2 * k.val, by omega⟩ (hiWord key) s).append
    (runsTo_wr_key ⟨2 * k.val + 1, by omega⟩ (loWord key) _)
  rw [State.setKey_key, setKey_setKey, setKey_setWordAt_eq_setSlot, hhi, hlo] at hrun
  exact hrun

theorem runsTo_loadBlk (b : Block) (s : State) : RunsTo s (loadBlk b) (s.setDin b) := by
  have hrun := (runsTo_wr_din 0 (hiWord b) s).append (runsTo_wr_din 1 (loWord b) _)
  have hdin : setWordAt (setWordAt s.din 0 (hiWord b)) 1 (loWord b) = b := by
    ext1 i hi
    have hslot : i / 8 = 0 := by omega
    have hpos : i % 8 = i := by omega
    simpa only [hslot, hpos, if_true] using setWordAt_hiWord_loWord s.din 0 b i hi
  rw [State.setDin_din, setDin_setDin, Fin.val_zero, Fin.val_one, hdin] at hrun
  exact hrun

/-! ### Commands -/

theorem inNormalMode_withPending {op : State → State} {s t : State} (ops : List HostEvent)
    (h : inNormalMode s op = .next t) (hop : op (s.withPending ops) = (op s).withPending ops) :
    inNormalMode (s.withPending ops) op = .next (t.withPending ops) := by
  obtain ⟨herr, rfl⟩ | ⟨herr, rfl⟩ := inNormalMode_eq_next.mp h
  · rw [inNormalMode_of_normal op (show (s.withPending ops).err = none from herr), hop]
  · exact inNormalMode_of_error op (show (t.withPending ops).err ≠ none from herr)

theorem cryptWith_withPending (len : SchedLen) {f : State → Block} (s : State) (ops : List HostEvent)
    (hf : f (s.withPending ops) = f s) : cryptWith len f (s.withPending ops) = (cryptWith len f s).withPending ops := by
  by_cases hlen : s.sklen = len
  · rw [cryptWith_of_len f hlen, cryptWith_of_len f (show (s.withPending ops).sklen = len from hlen), hf]
    rfl
  · rw [cryptWith_of_ne f hlen, cryptWith_of_ne f (show (s.withPending ops).sklen ≠ len from hlen)]
    rfl

theorem onSlot_withPending (n : BitVec 2) {op : Fin 3 → State → State} (s : State) (ops : List HostEvent)
    (hop : ∀ k, op k (s.withPending ops) = (op k s).withPending ops) :
    onSlot n op (s.withPending ops) = (onSlot n op s).withPending ops := by
  obtain ⟨k, rfl⟩ | rfl := slotBits_or_three n
  · rw [onSlot_slotBits, onSlot_slotBits, hop]
  · rfl

/-- No command looks at what the host does next. -/
theorem exec_withPending {i : Instr} {s t : State} (ops : List HostEvent) (h : exec i s = .next t) :
    exec i (s.withPending ops) = .next (t.withPending ops) := by
  cases i with
  | clr =>
    obtain rfl := eq_of_exec h (exec_clr s)
    rfl
  | ks1E | ks2E | ks3E | ks1D | ks2D | ks3D =>
    simp only [exec_ks1E, exec_ks2E, exec_ks3E, exec_ks1D, exec_ks2D, exec_ks3D] at h ⊢
    exact inNormalMode_withPending ops h rfl
  | crypt1 | crypt3 => exact inNormalMode_withPending ops h (cryptWith_withPending _ s ops rfl)
  | parset n | parchk n | weakchk n =>
    exact inNormalMode_withPending ops h (onSlot_withPending n s ops fun _ => rfl)

theorem runsTo_cmd {i : Instr} {s t : State} (hi : i.wellFormed = true) (h : exec i s = .next t) :
    RunsTo s [cmd i] t :=
  RunsTo.of_step fun rest => by
    rw [step_command (s := s.withPending (cmd i :: rest)) rfl, execute_of_decode _ (decode_encode hi)]
    exact exec_withPending (s := s) rest h

/-! ### The pseudo-operations -/

/-- A block loaded, processed under the schedule held, and read. -/
theorem runsTo_block {i : Instr} {s : State} (b : Block) (herr : s.err = none) (hi : schedNeeded i = some s.sklen) :
    RunsTo s (loadBlk b ++ [cmd i] ++ readBlk) (((s.setDin b).setDout (blockOutput s.sklen s.sk b)).returning
      [hiWord (blockOutput s.sklen s.sk b), loWord (blockOutput s.sklen s.sk b)]) := by
  have hwf : i.wellFormed = true := by
    cases i
    case crypt1 | crypt3 => rfl
    all_goals cases hi
  exact ((runsTo_loadBlk b s).append (runsTo_cmd hwf (exec_of_schedNeeded (s := s.setDin b) herr hi))).append
    (runsTo_readBlk _)

/-- Once the keys are loaded, a key-schedule command and a block command of its length return the block processed under
the schedule written. -/
theorem returnsBlock_of_loads {ks c : Instr} {s t : State} {loads : List HostEvent} {sk : Cascade} {len : SchedLen}
    {dir : Dir} (b : Block) (hloads : RunsTo s loads t) (herr : t.err = none) (hreads : t.reads = s.reads)
    (hwf : ks.wellFormed = true) (hks : exec ks t = .next (t.setContext sk len dir)) (hc : schedNeeded c = some len) :
    ReturnsBlock s (loads ++ [cmd ks] ++ (loadBlk b ++ [cmd c] ++ readBlk)) (blockOutput len sk b) :=
  ((hloads.append (runsTo_cmd hwf hks)).append (runsTo_block b herr hc)).returns_returning hreads

/-- One key, and a block. -/
theorem returnsBlock_of_single {ks : Instr} {s : State} {k1 : Key} {sched : Schedule} {dir : Dir} (b : Block)
    (herr : s.err = none) (hwf : ks.wellFormed = true) (hks : ∀ t : State, t.err = none → t.slot 0 = k1 →
      exec ks t = .next (t.setContext (singleContext sched) .single dir)) :
    ReturnsBlock s (loadKey 0 k1 ++ [cmd ks] ++ desBlock b) (processBlock sched b) := by
  have hloads := runsTo_loadKey 0 k1 s
  have herr' : (s.setSlot 0 k1).err = none := (State.setSlot_err ..).trans herr
  have hblock := returnsBlock_of_loads (c := .crypt1) b hloads herr' (State.setSlot_reads ..) hwf
    (hks _ herr' (slot_setSlot_same ..)) rfl
  rwa [blockOutput, segment_singleContext] at hblock

/-- Two keys, and a block. -/
theorem returnsBlock_of_two {ks : Instr} {s : State} {k1 k2 : Key} {sk : Cascade} {dir : Dir} (b : Block)
    (herr : s.err = none) (hwf : ks.wellFormed = true) (hks : ∀ t : State, t.err = none → t.slot 0 = k1 →
      t.slot 1 = k2 → exec ks t = .next (t.setContext sk .cascade dir)) :
    ReturnsBlock s (loadKey 0 k1 ++ loadKey 1 k2 ++ [cmd ks] ++ des3Block b) (processBlock3 sk b) := by
  have hloads := (runsTo_loadKey 0 k1 s).append (runsTo_loadKey 1 k2 _)
  have herr' : ((s.setSlot 0 k1).setSlot 1 k2).err = none := by simpa using herr
  have hslot0 : ((s.setSlot 0 k1).setSlot 1 k2).slot 0 = k1 := by
    rw [slot_setSlot_other 0 1 _ _ (by decide), slot_setSlot_same]
  have hblock := returnsBlock_of_loads (c := .crypt3) b hloads herr' (by simp) hwf
    (hks _ herr' hslot0 (slot_setSlot_same ..)) rfl
  rwa [blockOutput] at hblock

/-- Three keys, and a block. -/
theorem returnsBlock_of_three {ks : Instr} {s : State} {k1 k2 k3 : Key} {sk : Cascade} {dir : Dir} (b : Block)
    (herr : s.err = none) (hwf : ks.wellFormed = true) (hks : ∀ t : State, t.err = none → t.slot 0 = k1 →
      t.slot 1 = k2 → t.slot 2 = k3 → exec ks t = .next (t.setContext sk .cascade dir)) :
    ReturnsBlock s (loadKey 0 k1 ++ loadKey 1 k2 ++ loadKey 2 k3 ++ [cmd ks] ++ des3Block b) (processBlock3 sk b) := by
  have hloads := ((runsTo_loadKey 0 k1 s).append (runsTo_loadKey 1 k2 _)).append (runsTo_loadKey 2 k3 _)
  have herr' : (((s.setSlot 0 k1).setSlot 1 k2).setSlot 2 k3).err = none := by simpa using herr
  have hslot0 : (((s.setSlot 0 k1).setSlot 1 k2).setSlot 2 k3).slot 0 = k1 := by
    rw [slot_setSlot_other 0 2 _ _ (by decide), slot_setSlot_other 0 1 _ _ (by decide), slot_setSlot_same]
  have hslot1 : (((s.setSlot 0 k1).setSlot 1 k2).setSlot 2 k3).slot 1 = k2 := by
    rw [slot_setSlot_other 1 2 _ _ (by decide), slot_setSlot_same]
  have hblock := returnsBlock_of_loads (c := .crypt3) b hloads herr' (by simp) hwf
    (hks _ herr' hslot0 hslot1 (slot_setSlot_same ..)) rfl
  rwa [blockOutput] at hblock

/-- A predicate command after its key is loaded returns the flag in bit 0 of `STATUS`. -/
theorem returnsFlag_of_predicate {i : Instr} {s t : State} {ops : List HostEvent} {v : Bool} (hops : RunsTo s ops t)
    (hreads : t.reads = s.reads) (hwf : i.wellFormed = true) (hexec : exec i t = .next (t.setFlag v)) :
    ReturnsFlag s (ops ++ ([cmd i] ++ readFlag)) v :=
  ⟨(t.setFlag v).status,
    (hops.append ((runsTo_cmd hwf hexec).append (runsTo_readFlag _))).returns_returning hreads,
    State.status_flag _⟩

/-- A slot number of a slot makes the hygiene commands well formed (R75). -/
theorem slotWellFormed_slotBits : ∀ k : Fin 3, slotWellFormed (slotBits k) = true := by decide

/-- Settles O60: every macro is a run of loads, commands and reads, and returns what the last command wrote. -/
theorem pseudoOperationsReturnTheirResults : Obligations.PseudoOperationsReturnTheirResults := by
  intro s herr
  refine ⟨fun k1 k2 k3 b => ⟨?_, ?_, ?_, ?_, ?_, ?_⟩, fun k key => ?_⟩
  · exact returnsBlock_of_single b herr rfl fun t ht h0 => h0 ▸ exec_ks1E_of_normal ht
  · exact returnsBlock_of_single b herr rfl fun t ht h0 => h0 ▸ exec_ks1D_of_normal ht
  · exact returnsBlock_of_two b herr rfl fun t ht h0 h1 => h0 ▸ h1 ▸ exec_ks2E_of_normal ht
  · exact returnsBlock_of_two b herr rfl fun t ht h0 h1 => h0 ▸ h1 ▸ exec_ks2D_of_normal ht
  · exact returnsBlock_of_three b herr rfl fun t ht h0 h1 h2 => h0 ▸ h1 ▸ h2 ▸ exec_ks3E_of_normal ht
  · exact returnsBlock_of_three b herr rfl fun t ht h0 h1 h2 => h0 ▸ h1 ▸ h2 ▸ exec_ks3D_of_normal ht
  · have hload := runsTo_loadKey k key s
    have hslot : (s.setSlot k key).slot k = key := slot_setSlot_same ..
    have herr' : (s.setSlot k key).err = none := (State.setSlot_err ..).trans herr
    have hreads : (s.setSlot k key).reads = s.reads := State.setSlot_reads ..
    have hwf := slotWellFormed_slotBits k
    have hparset := exec_parset_of_normal k herr'
    have hparchk := exec_parchk_of_normal k herr'
    have hweakchk := exec_weakchk_of_normal k herr'
    rw [hslot] at hparset hparchk hweakchk
    refine ⟨?_, ?_, returnsFlag_of_predicate hload hreads hwf hparchk,
      returnsFlag_of_predicate hload hreads hwf hweakchk⟩
    · have hrun := (hload.append (runsTo_readKey k _)).returns_returning hreads
      rwa [hslot] at hrun
    · rw [setSlot_setSlot] at hparset
      have hcmd : RunsTo _ [cmd (.parset (slotBits k))] _ := runsTo_cmd hwf hparset
      have hrun := (hload.append (hcmd.append (runsTo_readKey k _))).returns_returning (by simp)
      rwa [slot_setSlot_same] at hrun

end Sys2Proof.Machine
end
